-- ==== Sys2Proof/Word.lean ====
section
/-! DEFINITION. The word types of the block (spec 00 R7, R8): command and response words of 16 bits, an 8-bit
image, 4-bit codes, column snapshots and row vectors. Bit 0 is the least significant bit of each. -/

namespace Sys2Proof

/-- A command word or a response word (R7: `CMD_WIDTH` and `RSP_WIDTH` are 16 bits). -/
abbrev Word := BitVec 16

/-- A `ShiftRegisterImage` (R7: `IMG_WIDTH` is 8); element `i` is bit `i` (R104). -/
abbrev Image := BitVec 8

/-- Four bits: a key code (R106), a column snapshot (R143) or the row outputs (R30). -/
abbrev Nibble := BitVec 4

end Sys2Proof
end

