-- ==== Sys2Proof/Config.lean ====
section
/-! DEFINITION. The implementation parameters of 00_scope.md R7, the keypad agent's free values, and the values the
parameters have at `State.reset`. The spec treats the OPEN parameters as ARGUMENTS of the model (93 X3 to X9,
treatment `parameter`); they ride in `Params`, which State carries, so that every claim over all states holds for
every value of them (DESIGN CHOICE, log entry 3). -/

namespace Sys2Proof

/-- `N_ROWS` (R7, fixed). -/
abbrev nRows : Nat := 4

/-- `N_COLS` (R7, fixed). -/
abbrev nCols : Nat := 4

/-- `N_KEYS` (R7, fixed), also the number of ROM entries (R71). -/
abbrev nKeys : Nat := 16

/-- `IMG_WIDTH` (R7, fixed), also the number of stages of the external register (R39). -/
abbrev imgWidth : Nat := 8

/-- `SYNC_STAGES` (R7, decided). -/
abbrev syncStages : Nat := 2

/-- `SHIFT_ORDER` (R200): element 7 first, or element 0 first. -/
inductive ShiftOrder where
  | desc
  | asc
  deriving DecidableEq, Repr, Inhabited

/-- `LATCH_EDGE` (R213): the edge of the latch line on which the external register transfers. -/
inductive LatchEdge where
  | rising
  | falling
  deriving DecidableEq, Repr, Inhabited

/-- `KEYPAD_ENV` (R7, R38): every sample a free draw, or the electrical model of R160. -/
inductive KeypadEnv where
  | any
  | ideal
  deriving DecidableEq, Repr, Inhabited

/-- The keypad's switch matrix `P` (R38): entry `r` holds row `r`, and its bit `k` is `P[r][k]`, 1 where closed. -/
abbrev Switches := Vector Nibble nRows

/-- What the keypad agent presents for one column sample (R6 item 3, R38, R162): the switches as they are at that
sample, the free draw of that sample (R143 under `ANY`, R160's
contended bits under `IDEAL`), and the draw of the column lines in the sample's own tick, which enters the first
synchroniser stage too late to be sampled (R32, X18). -/
structure KeypadMoment where
  switches : Switches
  draw     : Nibble
  late     : Nibble
  deriving DecidableEq, Repr, Inhabited

/-- The parameters of R7 that are not fixed by the source, as the block and its attached register were built
(R273 items 1 and 2). No command and no reset writes them (R37). -/
structure Params where
  /-- `KEY_ROM`, entry `4*r + c` holding `KEY_CODE(KEYMAP(r, c))` (R35, R72). -/
  keyRom        : Vector Nibble nKeys
  shiftOrder    : ShiftOrder
  latchEdge     : LatchEdge
  /-- `HOLD_TICKS` (R203), at least 1. -/
  holdTicks     : Nat
  /-- `SETTLE_TICKS` (R142), at least `SYNC_STAGES + 1`. -/
  settleTicks   : Nat
  /-- `T_TICK`, the clock period, in an unnamed unit of time. -/
  tTick         : Nat
  /-- The longest of the attached chip's minimum pulse widths and its data setup time (R275), in that unit. -/
  chipMin       : Nat
  /-- The external register is wired right and works (R207, R242, X15, X16). -/
  registerSound : Bool
  keypadEnv     : KeypadEnv
  deriving DecidableEq, Repr, Inhabited

/-- R275 and R207: the external register follows R212 and R213 when it is sound and every line level is held longer
than the chip's minimum. Otherwise its contents are not constrained (X15, X16). DEDUCED, log entry 8. -/
def Params.registerFollows (p : Params) : Bool :=
  p.registerSound && decide (p.chipMin < p.holdTicks * p.tTick)

/-- FREE VALUE: the `n`-th column sample's keypad moment, when the environment's own list of moments is used up
(R143: a sample is a draw from the keypad agent). DESIGN CHOICE, log entry 5. -/
opaque Config.freeMoment : Nat → KeypadMoment

/-- FREE VALUE: what the column lines carry in the `n`-th tick when no row is settling, as far as the keypad leaves it
open (X9, X18). DESIGN CHOICE, log entry 15. -/
opaque Config.freeColumns : Nat → Nibble

/-- FREE VALUE: the keypad's switches in the `n`-th tick, which may change at any tick (R38, R162). DESIGN CHOICE, log
entry 16. -/
opaque Config.freeSwitches : Nat → Switches

/-- FREE VALUE: what a reset in the `n`-th tick leaves in the column synchroniser (10_state.md section 5:
"unspecified"). DESIGN CHOICE, log entry 15. -/
opaque Config.freeSync : Nat → Vector Nibble syncStages

/-- FREE VALUE of the configuration: how far `HOLD_TICKS` exceeds its least value 1 (R203). Log entry 4. -/
opaque Config.holdExtra : Nat

/-- FREE VALUE of the configuration: how far `SETTLE_TICKS` exceeds its least value (R142). Log entry 4. -/
opaque Config.settleExtra : Nat

/-- FREE VALUE of the configuration: how far `T_TICK` exceeds one unit of time. Log entry 4. -/
opaque Config.tickExtra : Nat

/-- FREE VALUE of the configuration: how far the hold time exceeds the chip's minimum (R275). Log entry 4. -/
opaque Config.pulseSlack : Nat

/-- The default `KEY_ROM` content of R153, by address `4*r + c`. PRESUMED by the spec itself, log entry 19. -/
def Config.defaultKeyRom : Vector Nibble nKeys :=
  #v[0x1, 0x2, 0x3, 0xA, 0x4, 0x5, 0x6, 0xB, 0x7, 0x8, 0x9, 0xC, 0xE, 0x0, 0xF, 0xD]

/-- The parameters at `State.reset`: R7's default where it gives one; the parameters without a default are free
values that meet R203, R142 and R275 (R273 item 2). DESIGN CHOICE, log entries 3 and 4. -/
def Config.params : Params :=
  { keyRom := Config.defaultKeyRom
    shiftOrder := .desc
    latchEdge := .rising
    holdTicks := Config.holdExtra + 1
    settleTicks := Config.settleExtra + (syncStages + 1)
    tTick := Config.tickExtra + 1
    chipMin := (Config.holdExtra + 1) * (Config.tickExtra + 1) - 1 - Config.pulseSlack
    registerSound := true
    keypadEnv := .any }

end Sys2Proof
end

