-- ==== Sys2Proof/Syntax.lean ====
section
/-! DEFINITION. The keys of R106 and R153 and the commands of spec/opcode_table.json, one constructor per row. The
table splits the command `EDGE x` of R182 by its operand: `EDGE NONE` and `EDGE <key>`. -/

namespace Sys2Proof

/-- The 16 values of `Key` (R153). -/
inductive Key where
  | zero
  | one
  | two
  | three
  | four
  | five
  | six
  | seven
  | eight
  | nine
  | a
  | b
  | c
  | d
  | star
  | hash
  deriving DecidableEq, Repr, Inhabited

/-- A command of the block's command port (R101). -/
inductive Instr where
  /-- `POLL` (R150). -/
  | poll
  /-- `POLL.E` (R151). -/
  | pollE
  /-- `EDGE NONE` (R182 with `V = 0`). -/
  | edgeNone
  /-- `EDGE k` (R182 with `V = 1`, `KC = KEY_CODE(k)`). -/
  | edge (k : Key)
  /-- `WRITE_ARRAY B` (R204); element `i` of the source's array is `b[i]` (R104). -/
  | writeArray (b : Image)
  deriving DecidableEq, Repr, Inhabited

/-- The command `EDGE x` of R182, for either form of its operand. -/
def Instr.edgeOf : Option Key → Instr
  | none => .edgeNone
  | some k => .edge k

/-- A line of assembler text that gives a command word: the forms of R110 and the pseudo-instructions of R111. -/
inductive AsmLine where
  | poll
  | pollE
  | edgeNone
  | edge (k : Key)
  /-- `WRITE_ARRAY [b0,...,b7]`, element 0 first. -/
  | writeBits (bits : Vector Bool imgWidth)
  /-- `WRITE_ARRAY 0xNN`. -/
  | writeHex (b : Image)
  /-- `.word 0xNNNN`, which may be reserved. -/
  | rawWord (w : Word)
  /-- `EDGE.CLR`. -/
  | edgeClr
  /-- `OUT.CLR`. -/
  | outClr
  /-- `OUT.SET`. -/
  | outSet
  deriving DecidableEq, Repr

end Sys2Proof
end

