-- ==== Sys2Proof/WellFormed.lean ====
section
/-! DEFINITION. The checks of the spec on what reaches the block from outside: which command words are reserved
(30_encoding.md R105, written from that rule's four clauses and not from the decoder), and the constraints on the
parameters (00_scope.md R7). A term of `Instr` needs no check: its operand types hold exactly the 275 legal commands
(R104: "needs no check"; R103: 17 forms). -/

namespace Sys2Proof

/-- R105 clause 1: `OP` is `0x0` or one of `0x4` to `0xF`. -/
def opUnassigned (w : Word) : Bool :=
  let op := w.extractLsb' 12 4
  op == 0x0#4 || decide (0x4#4 ≤ op)

/-- R105 clause 2: `OP = 0x1` and (`[11:9] != 0` or `[7:0] != 0`). -/
def pollMalformed (w : Word) : Bool :=
  w.extractLsb' 12 4 == 0x1#4 && (w.extractLsb' 9 3 != 0#3 || w.extractLsb' 0 8 != 0#8)

/-- R105 clause 3: `OP = 0x2` and (`[11:5] != 0`, or `V = 0` and `KC != 0`). -/
def edgeMalformed (w : Word) : Bool :=
  w.extractLsb' 12 4 == 0x2#4 &&
    (w.extractLsb' 5 7 != 0#7 || (w.extractLsb' 4 1 == 0#1 && w.extractLsb' 0 4 != 0#4))

/-- R105 clause 4: `OP = 0x3` and `[11:8] != 0`. -/
def writeMalformed (w : Word) : Bool :=
  w.extractLsb' 12 4 == 0x3#4 && w.extractLsb' 8 4 != 0#4

/-- R105: a word is reserved when any of the four clauses holds. -/
def reservedWord (w : Word) : Bool :=
  opUnassigned w || pollMalformed w || edgeMalformed w || writeMalformed w

/-- R72: the ROM content is injective over the 16 positions (so it is a bijection). -/
def Params.romInjective (p : Params) : Bool :=
  decide (∀ i j : Fin nKeys, p.keyRom[i] = p.keyRom[j] → i = j)

/-- The constraints of R7 on the parameters: `KEYMAP` a bijection, `HOLD_TICKS >= 1`,
`SETTLE_TICKS >= SYNC_STAGES + 1`, and a clock period that is not zero. -/
def Params.wf (p : Params) : Bool :=
  p.romInjective && decide (1 ≤ p.holdTicks) && decide (syncStages + 1 ≤ p.settleTicks) && decide (1 ≤ p.tTick)

end Sys2Proof
end

