-- ==== Sys2Proof/Decode.lean ====
section
/-! DEFINITION. Key codes (30_encoding.md R106), the 5-bit forms of an `Option Key` (R108), the total decoder of R109,
its encoder, and spec/opcode_table.json as mask and match rows. A command word crosses the port as 16 parallel bits,
so there is no byte order (R73). -/

namespace Sys2Proof

/-- `KEY_CODE` (R106). -/
def keyCode : Key → Nibble
  | .zero => 0x0
  | .one => 0x1
  | .two => 0x2
  | .three => 0x3
  | .four => 0x4
  | .five => 0x5
  | .six => 0x6
  | .seven => 0x7
  | .eight => 0x8
  | .nine => 0x9
  | .a => 0xA
  | .b => 0xB
  | .c => 0xC
  | .d => 0xD
  | .star => 0xE
  | .hash => 0xF

/-- `KEY_OF` (R106), the inverse of `KEY_CODE`. -/
def keyOf (kc : Nibble) : Key :=
  match kc.toNat with
  | 0x0 => .zero
  | 0x1 => .one
  | 0x2 => .two
  | 0x3 => .three
  | 0x4 => .four
  | 0x5 => .five
  | 0x6 => .six
  | 0x7 => .seven
  | 0x8 => .eight
  | 0x9 => .nine
  | 0xA => .a
  | 0xB => .b
  | 0xC => .c
  | 0xD => .d
  | 0xE => .star
  | _ => .hash

/-- `enc` (R108): the 5-bit form of an `Option Key`, valid bit on top. -/
def encKey : Option Key → BitVec 5
  | none => 0b0#1 ++ 0b0000#4
  | some k => 0b1#1 ++ keyCode k

/-- `dec` (R108) on `{v, kc}`; the outer `none` is "not an encoding". -/
def decKey (v : BitVec 1) (kc : Nibble) : Option (Option Key) :=
  if v = 1#1 then some (some (keyOf kc)) else if kc = 0#4 then some none else none

/-- What the decoder answers (R109): a command, or `Reserved(w)` by name. -/
inductive Decoded where
  | command (i : Instr)
  | reserved (w : Word)
  deriving DecidableEq, Repr

/-- The decoder of R109, total on all 16-bit words. -/
def decode (w : Word) : Decoded :=
  match (w.extractLsb' 12 4).toNat with
  | 0x1 =>
    if w.extractLsb' 9 3 = 0#3 ∧ w.extractLsb' 0 8 = 0#8 then
      .command (if w.extractLsb' 8 1 = 0#1 then .poll else .pollE)
    else .reserved w
  | 0x2 =>
    if w.extractLsb' 5 7 = 0#7 then
      match decKey (w.extractLsb' 4 1) (w.extractLsb' 0 4) with
      | some x => .command (.edgeOf x)
      | none => .reserved w
    else .reserved w
  | 0x3 =>
    if w.extractLsb' 8 4 = 0#4 then .command (.writeArray (w.extractLsb' 0 8)) else .reserved w
  | _ => .reserved w

/-- The encoder of R109 (formats R102, R103, R104). -/
def encode : Instr → Word
  | .poll => 0x1000#16
  | .pollE => 0x1100#16
  | .edgeNone => 0x2000#16 ||| (encKey none).setWidth 16
  | .edge k => 0x2000#16 ||| (encKey (some k)).setWidth 16
  | .writeArray b => 0x3000#16 ||| b.setWidth 16

/-- The instruction `decode` reads from an instruction of the table whose bits are `w`, bits at `nbits` and above
being 0; none where the word is reserved, and none where the bits do not fit a command word (R100: every command is
one 16-bit word, there is no other length). -/
def decodeTableWord (nbits w : Nat) : Option Instr :=
  let bits := w % 2 ^ nbits
  if bits < 2 ^ 16 then
    match decode (BitVec.ofNat 16 bits) with
    | .command i => some i
    | .reserved _ => none
  else none

/-- A row of spec/opcode_table.json: its mnemonic and the mask and match of its fixed bits. -/
structure OpcodeRow where
  mnemonic : String
  mask     : Word
  value    : Word
  deriving DecidableEq, Repr

/-- The five rows of spec/opcode_table.json, in its order. -/
def opcodeRows : List OpcodeRow :=
  [ ⟨"POLL", 0xFFFF, 0x1000⟩,
    ⟨"POLL.E", 0xFFFF, 0x1100⟩,
    ⟨"EDGE_NONE", 0xFFFF, 0x2000⟩,
    ⟨"EDGE", 0xFFF0, 0x2010⟩,
    ⟨"WRITE_ARRAY", 0xFF00, 0x3000⟩ ]

/-- A word has a row's fixed bits. -/
def OpcodeRow.fits (row : OpcodeRow) (w : Word) : Bool := w &&& row.mask == row.value

/-- The mnemonic of a command's row of spec/opcode_table.json. -/
def Instr.mnemonic : Instr → String
  | .poll => "POLL"
  | .pollE => "POLL.E"
  | .edgeNone => "EDGE_NONE"
  | .edge _ => "EDGE"
  | .writeArray _ => "WRITE_ARRAY"

end Sys2Proof
end

