-- ==== Sys2Proof/Machine/State.lean ====
section
/-! DEFINITION. The state of the block (10_state.md R30 to R36), of its two attached devices (R38, R39), of the host's
and the keypad's inputs (R6), and the observation of a run (R49), as plain data; the reasons a step can stop; and the
state right after reset (10_state.md section 5, 70_reset_and_hazards.md R270). -/

namespace Sys2Proof.Machine

/-- One of the driver's three output lines (R31). -/
inductive Line where
  | data
  | clk
  | latch
  deriving DecidableEq, Repr

/-- A line-level event (R10). -/
inductive LineEvent where
  | drive (line : Line) (v : Bool)
  | driveRows (v : Nibble)
  | hold (ticks : Nat)
  | sample (s : Nibble)
  | respond (w : Word)
  deriving DecidableEq, Repr

/-- The eight stages of `CHAIN`, or the eight pins of `Q` (R39), index `k` being stage or pin `k`; `none` is a level
that is not known (R39, R272, X13, X14: "a model holds each as unknown (`none`)"). Stage by stage: DEDUCED, log entry 7. -/
abbrev Stages := Vector (Option Bool) imgWidth

/-- The phase of a running command's sequence (R36): one phase for each event of the traces of R152 and R205. -/
inductive Phase where
  /-- `DriveRows(onehot4(r))` is next (R141). -/
  | driveRow
  /-- `Hold(SETTLE_TICKS)` after it (R142). -/
  | settle
  /-- `SampleCols()` is next (R143). -/
  | sample
  /-- `DriveRows(0b0000)` is next (R147). -/
  | park
  /-- `Drive(DATA, IMG[i])` is next (R201). -/
  | setData
  | holdData
  /-- `Drive(CLK, 1)` is next (R201). -/
  | clkHigh
  | holdClkHigh
  /-- `Drive(CLK, 0)` is next (R201). -/
  | clkLow
  | holdClkLow
  /-- `Drive(LATCH, 1)` is next (R202). -/
  | latchHigh
  | holdLatchHigh
  /-- `Drive(LATCH, 0)` is next (R202). -/
  | latchLow
  | holdLatchLow
  /-- The command's result is written and `Respond()` is next (R46). -/
  | respond
  deriving DecidableEq, Repr

/-- The sequencer's fields while a command runs (R36). DESIGN CHOICE, log entry 9. -/
structure Sequencer where
  /-- The command being executed. -/
  cmd     : Instr
  phase   : Phase
  /-- The row index `r`. -/
  row     : Fin nRows
  /-- The bit index `i`. -/
  bit     : Fin imgWidth
  /-- The hold counter: the ticks the present `Hold` still has to wait. -/
  hold    : Nat
  /-- The image buffer `IMG`. -/
  img     : Image
  /-- The pending result: the key the scan found. -/
  pending : Option Key
  deriving DecidableEq, Repr

/-- The levels the host puts on the block's input ports for one tick (R44). The column inputs `col_in` are the
keypad agent's and reach the block as `KeypadMoment`s (R32). -/
structure Pins where
  rst      : Bool
  cmdValid : Bool
  cmdWord  : Word
  deriving DecidableEq, Repr

/-- A move of the world outside the block. DESIGN CHOICE, log entry 1. -/
inductive HostMove where
  /-- The host presents a command word and holds it until it is accepted, then waits for the response (R45 to R47):
  the transaction level of R5. -/
  | command (w : Word)
  /-- One tick with these levels on the input ports (R44, R270): the line level of R5, in which `rst` may fall at any
  tick of a command. -/
  | clock (pins : Pins)
  /-- Loss of clock or power, or a fault of the platform (R243, X22). DEDUCED, log entry 17. -/
  | platformLoss
  deriving DecidableEq, Repr

/-- The machine's state. The block's registers come first, then the attached devices, then the inputs still to come,
then the observation of the run so far, then the parameters. -/
@[ext]
structure State where
  /-- `ROW_OUT` (R30). -/
  rowOut    : Nibble
  /-- `DATA` (R31). -/
  data      : Bool
  /-- `CLK` (R31). -/
  clk       : Bool
  /-- `LATCH` (R31). -/
  latch     : Bool
  /-- `RESULT` (R33), presented on `rsp_word` (R44). -/
  result    : Word
  /-- `EDGE_PREV` (R34); its five bits `{PV, PK}` are `encKey` of it (R108). -/
  edgePrev  : Option Key
  /-- The `rsp_valid` pulse of the latest tick (R44, R46). -/
  rspValid  : Bool
  /-- `BUSY` and the other sequencer fields (R36): `none` is `BUSY = 0`, and `some q` is `BUSY = 1` with fields `q`. -/
  seq       : Option Sequencer
  /-- The column synchroniser's stages (R32), in the order the columns pass them; the last one is sampled. -/
  colSync   : Vector Nibble syncStages
  /-- The external register's shift stages `CHAIN` (R39). -/
  chain     : Stages
  /-- What the external register's output latches hold (R213); `Q` (R39) is `State.q`, which shows them unless R272
  holds `Q` unknown. -/
  latched   : Stages
  /-- R272's "until the first `WRITE_ARRAY` completes" is over: one has completed since power-up, or a reset has cut one
  at or after `Drive(LATCH, 1)` (R271; DEDUCED, log entry 25). -/
  written   : Bool
  /-- The keypad's closed switches `P` (R38), which may change at any tick (R38, R162): a free value in every tick but
  a sample's own, in which they are the ones that sample reads (DESIGN CHOICE, log entry 16). Under `KEYPAD_ENV = ANY` nothing reads them (R38). -/
  switches  : Switches
  /-- What the keypad agent presents at the coming samples, the next one first (R6, R38). -/
  keypad    : List KeypadMoment
  /-- MODEL'S OWN: how many samples took a free value after the list `keypad` was used up. -/
  draws     : Nat
  /-- MODEL'S OWN: how many ticks have passed, which tells one tick's free values from another's. -/
  clocks    : Nat
  /-- What the host does next, the next move first (R6, R41). -/
  host      : List HostMove
  /-- The response words so far, in order (R49). -/
  responses : List Word
  /-- The line-level trace so far, in order (R10, R49). -/
  trace     : List LineEvent
  /-- The parameters (R7); never written (R37). -/
  params    : Params
  deriving DecidableEq, Repr

/-- Why the machine stops with a fault. The block has no exceptions (R240): no command raises one. -/
inductive Fault where
  /-- Raised by `step` at the environment's move `platformLoss`: clock, power or platform lost (R243, X22, treatment
  `stuck`). Safe: the model makes no further step. -/
  | platformLost
  deriving DecidableEq, Repr

/-- Why the machine has no meaning for what it was given. -/
inductive Refusal where
  /-- Raised by an arm of `exec` whose instruction has no meaning yet. Safe. -/
  | notModelled (mnemonic : String)
  /-- Raised by `step` when a reserved command word is accepted: `ReservedCommand(word)` (R241). Safe: "the refusal
  errs toward unprovable". -/
  | reservedCommand (w : Word)
  deriving DecidableEq, Repr

/-- All eight stages unknown (R39, R272). -/
def Stages.unknown : Stages := Vector.replicate imgWidth none

/-- The state right after reset: the block registers as R270 says, `CHAIN` and `Q` unknown as at power-up (R272), no
input given yet, nothing observed yet, and the parameters of `Config.params`. DESIGN CHOICE, log entries 3, 4, 15, 16 and
23: the values the spec does not state. -/
def State.reset : State :=
  { rowOut := 0#4
    data := false
    clk := false
    latch := false
    result := 0#16
    edgePrev := none
    rspValid := false
    seq := none
    colSync := Vector.replicate syncStages 0#4
    chain := Stages.unknown
    latched := Stages.unknown
    written := false
    switches := Vector.replicate nRows 0#4
    keypad := []
    draws := 0
    clocks := 0
    host := []
    responses := []
    trace := []
    params := Config.params }

end Sys2Proof.Machine
end

