-- ==== Sys2Proof/Machine/Operands.lean ====
section
/-! DEFINITION. The operand forms and bit-level notation of the spec: `onehot4` and `ctz4` (00_scope.md R8), the scan
and shift orders (R140, R200), image elements (R104), `outmap` (R208), and the ROM address and read (R71, R72). -/

namespace Sys2Proof.Machine

/-- `onehot4(r)` (R8): only bit `r` set. -/
def onehot4 (r : Fin nRows) : Nibble := 1#4 <<< r.val

/-- `ctz4(s)` (R8, R145): the index of the lowest set bit of a nonzero `s`. -/
def ctz4 (s : Nibble) : Fin nCols :=
  if s.getLsbD 0 then 0 else if s.getLsbD 1 then 1 else if s.getLsbD 2 then 2 else 3

/-- The rows in the order a poll visits them (R140). -/
def scanOrder : List (Fin nRows) := [0, 1, 2, 3]

/-- The order in which the image elements leave on the data line (R200). -/
def shiftOrder : ShiftOrder → List (Fin imgWidth)
  | .desc => [7, 6, 5, 4, 3, 2, 1, 0]
  | .asc => [0, 1, 2, 3, 4, 5, 6, 7]

/-- The first element shifted (R200). -/
def firstElement (o : ShiftOrder) : Fin imgWidth := (shiftOrder o).headD 0

/-- The last element shifted, `i_8` of R206. -/
def lastElement (o : ShiftOrder) : Fin imgWidth := (shiftOrder o).getLastD 0

/-- The element shifted after element `i`, none after the last (R200). -/
def nextElement (o : ShiftOrder) (i : Fin imgWidth) : Option (Fin imgWidth) :=
  (((shiftOrder o).dropWhile (fun j => j ≠ i)).drop 1).head?

/-- Element `i` of an image, `B[i]` (R104). -/
def imageElement (b : Image) (i : Fin imgWidth) : Bool := b.getLsbD i.val

/-- `outmap(B)` (R208): `B` under `DESC`, and bit `k` is `B[7 - k]` under `ASC`. -/
def outmap (o : ShiftOrder) (b : Image) : Image :=
  match o with
  | .desc => b
  | .asc =>
    b.extractLsb' 0 1 ++ b.extractLsb' 1 1 ++ b.extractLsb' 2 1 ++ b.extractLsb' 3 1 ++
      b.extractLsb' 4 1 ++ b.extractLsb' 5 1 ++ b.extractLsb' 6 1 ++ b.extractLsb' 7 1

/-- A byte as the levels of the eight stages or pins, bit `k` at index `k` (R39, R214). -/
def Stages.ofByte (b : Image) : Stages :=
  #v[some (b.getLsbD 0), some (b.getLsbD 1), some (b.getLsbD 2), some (b.getLsbD 3),
    some (b.getLsbD 4), some (b.getLsbD 5), some (b.getLsbD 6), some (b.getLsbD 7)]

/-- A position of the keypad (R8): row index and column index. -/
abbrev Position := Fin nRows × Fin nCols

/-- The ROM address of a position (R71): `{r[1:0], c[1:0]} = 4*r + c`. -/
def romAddress (pos : Position) : Nibble := BitVec.ofNat 2 pos.1.val ++ BitVec.ofNat 2 pos.2.val

/-- `RomRead(a)` (R72); it has no side effect (R76). -/
def romRead (p : Params) (a : Nibble) : Nibble := p.keyRom[a.toNat]'a.isLt

/-- `KEYMAP(r, c)` as the ROM holds it (R146, R72). -/
def keyAt (p : Params) (pos : Position) : Key := keyOf (romRead p (romAddress pos))

end Sys2Proof.Machine
end

