-- ==== Sys2Proof/Machine/Flags.lean ====
section
/-! DEFINITION. The result word of 30_encoding.md R107 and its status bits (10_state.md R42). The block has no
condition codes: `KEY_VALID`, `FIRE_VALID` and `PV` are its only flags. -/

namespace Sys2Proof.Machine

/-- `RESULT = {0b000, FIRE_VALID, FIRE_CODE, 0b000, KEY_VALID, KEY_CODE}` (R107), for the key a poll found and the key
the edge detector fired. -/
def resultWord (key fire : Option Key) : Word := 0b000#3 ++ encKey fire ++ 0b000#3 ++ encKey key

/-- `KEY_CODE`, bits [3:0] (R107). -/
def keyCodeField (w : Word) : Nibble := w.extractLsb' 0 4

/-- `KEY_VALID`, bit [4] (R107). -/
def keyValid (w : Word) : Bool := w.getLsbD 4

/-- `FIRE_CODE`, bits [11:8] (R107). -/
def fireCodeField (w : Word) : Nibble := w.extractLsb' 8 4

/-- `FIRE_VALID`, bit [12] (R107). -/
def fireValid (w : Word) : Bool := w.getLsbD 12

/-- `PV` of `EDGE_PREV` (R34, R42). -/
def edgeValid (s : State) : Bool := (encKey s.edgePrev).getLsbD 4

/-- `PK` of `EDGE_PREV` (R34). -/
def edgeCode (s : State) : Nibble := (encKey s.edgePrev).extractLsb' 0 4

end Sys2Proof.Machine
end

