-- ==== Sys2Proof/Machine/Keypad.lean ====
section
/-! DEFINITION. The keypad agent (40_keypad_scanner.md R143, R160 to R162): what one column sample returns. The
electrical model of R160 is PRESUMED by the spec itself (93 G2), log entry 14. -/

namespace Sys2Proof.Machine

/-- The rows whose switch closes onto column `k` (R160). -/
def rowsAt (P : Switches) (k : Fin nCols) : Nibble :=
  BitVec.ofBool (P[3].getLsbD k.val) ++ BitVec.ofBool (P[2].getLsbD k.val) ++
    BitVec.ofBool (P[1].getLsbD k.val) ++ BitVec.ofBool (P[0].getLsbD k.val)

/-- The columns a set of rows is joined to by closed switches (R160). -/
def colsOf (P : Switches) (rows : Nibble) : Nibble :=
  scanOrder.foldl (fun acc r => if rows.getLsbD r.val then acc ||| P[r] else acc) 0#4

/-- A set of rows, and every row that shares a column with one of them (R160). -/
def joinRows (P : Switches) (rows : Nibble) : Nibble :=
  scanOrder.foldl
    (fun acc r => if P[r] &&& colsOf P rows ≠ 0#4 then acc ||| onehot4 r else acc) rows

/-- `rows(c)` of R160: the row lines in the connected component of column `k`. Three joins reach every row, since the
first row is there from the start and each join that is not the last adds one of the other three. -/
def rowsConnected (P : Switches) (k : Fin nCols) : Nibble :=
  joinRows P (joinRows P (joinRows P (rowsAt P k)))

/-- What column `k` reads under `KEYPAD_ENV = IDEAL` (R160's table) when the rows `high` are driven high and the
others low; `free` is the draw of a contended column. With no row driven high every column reads 0. -/
def idealColumn (P : Switches) (high : Nibble) (free : Bool) (k : Fin nCols) : Bool :=
  let rows := rowsConnected P k
  if rows &&& high = 0#4 then false
  else if rows &&& ~~~high = 0#4 then true
  else free

/-- The column snapshot under `KEYPAD_ENV = IDEAL` (R160). -/
def idealSample (P : Switches) (high draw : Nibble) : Nibble :=
  BitVec.ofBool (idealColumn P high (draw.getLsbD 3) 3) ++ BitVec.ofBool (idealColumn P high (draw.getLsbD 2) 2) ++
    BitVec.ofBool (idealColumn P high (draw.getLsbD 1) 1) ++ BitVec.ofBool (idealColumn P high (draw.getLsbD 0) 0)

/-- One column sample (R143, R162): a free draw under `ANY`; under `IDEAL`, R160 applied to the switches as they are at
that sample. -/
def sampleOf (env : KeypadEnv) (high : Nibble) (m : KeypadMoment) : Nibble :=
  match env with
  | .any => m.draw
  | .ideal => idealSample m.switches high m.draw

/-- The keypad's moment at the `j`-th column sample from now: the environment's list, and free values after its end. -/
def upcoming (s : State) (j : Nat) : KeypadMoment :=
  s.keypad.getD j (Config.freeMoment (s.draws + (j - s.keypad.length)))

end Sys2Proof.Machine
end

