-- ==== Sys2Proof/Machine/ExternalRegister.lean ====
section
/-! DEFINITION. The external shift register (42_shift_register.md R212 to R214), which reacts to level changes on the
shift clock and latch lines, and what is known of it where R212 and R213 do not hold (R207, R242, X15, X16). R212 to
R214 are PRESUMED by the spec itself (93 G3 to G5), log entries 8 and 19. -/

namespace Sys2Proof.Machine

/-- `CHAIN <- {CHAIN[6:0], sr_data}` (R212): the data level enters stage 0, and stage `k` takes the old stage
`k - 1`. -/
def shiftIn (old : Stages) (d : Bool) : Stages :=
  #v[some d, old[0], old[1], old[2], old[3], old[4], old[5], old[6]]

/-- A line level rises (R212: 0 to 1). -/
def rises (before after : Bool) : Bool := !before && after

/-- A line level falls. -/
def falls (before after : Bool) : Bool := before && !after

/-- The latch line makes its active edge (R213). -/
def latchActive (e : LatchEdge) (before after : Bool) : Bool :=
  match e with
  | .rising => rises before after
  | .falling => falls before after

/-- `CHAIN` after the shift clock line goes from `before` to `after` with the data line at `d` (R212). -/
def chainAfterClk (p : Params) (before after d : Bool) (old : Stages) : Stages :=
  if p.registerFollows then (if rises before after then shiftIn old d else old) else Stages.unknown

/-- `Q` (R39, R213), which a model holds as unknown from power-up until the first `WRITE_ARRAY` completes (R272, X13). -/
def State.q (s : State) : Stages := if s.written then s.latched else Stages.unknown

/-- The output latches after the latch line goes from `before` to `after` (R213). -/
def qAfterLatch (p : Params) (before after : Bool) (chain old : Stages) : Stages :=
  if p.registerFollows then (if latchActive p.latchEdge before after then chain else old) else Stages.unknown

/-- Contents that no drive touches: kept where R212 and R213 hold, unknown where they do not (X15, X16). -/
def keptContents (p : Params) (old : Stages) : Stages :=
  if p.registerFollows then old else Stages.unknown

end Sys2Proof.Machine
end

