-- ==== Sys2Proof/Machine/Ops.lean ====
section
/-! DEFINITION. The primitives of 00_scope.md R9 over the state: `DriveRows`, `Drive`, `Hold`, `SampleCols`,
`Respond`, and reset (70_reset_and_hazards.md R270, R271). Each adds its event to the line-level trace (R10) and takes
its ticks (R285), and in every tick the columns pass on through the synchroniser (10_state.md R32). The block has no
memory (20_memory.md R70), no exceptions and no return from one (60_exceptions.md R240, R246), so there is no such
operation. -/

namespace Sys2Proof.Machine

/-- Put one event at the end of the line-level trace (R10). -/
def State.logEvent (e : LineEvent) (s : State) : State := { s with trace := s.trace ++ [e] }

/-! The keypad and the column synchroniser, tick by tick (R32, R38). -/

/-- One tick of the keypad and the synchroniser: the switches are `P` in it (R38), the column lines enter the first
flip-flop, and its old value enters the second (R32). -/
def clockColumns (P : Switches) (lines : Nibble) (s : State) : State :=
  { s with colSync := #v[lines, s.colSync[0]], switches := P, clocks := s.clocks + 1 }

/-- The switches in this tick, where it is no sample's: any (R38, R162). -/
def freeSwitches (s : State) : Switches := Config.freeSwitches s.clocks

/-- What the column lines carry in such a tick: anything under `ANY`; under `IDEAL` what R160 gives for the switches and
the rows driven, with a draw where drivers contend, so 0 when no row is driven. -/
def columnLines (s : State) : Nibble :=
  match s.params.keypadEnv with
  | .any => Config.freeColumns s.clocks
  | .ideal => idealSample (freeSwitches s) s.rowOut (Config.freeColumns s.clocks)

/-- One tick in which no answer is captured and no sample is taken. -/
def clock (s : State) : State := clockColumns (freeSwitches s) (columnLines s) s

/-- The keypad's answer to the rows driven, for the sample to come (R143, R160). -/
def keypadAnswer (s : State) : Nibble := sampleOf s.params.keypadEnv s.rowOut (upcoming s 0)

/-- The tick in which the keypad's answer enters the first flip-flop, so that it has passed both, and can be sampled,
two ticks later. The answer is the one for the switches as the sample finds them (R162), and the switches of this tick are
any, like those of every tick before the sample (DESIGN CHOICE, log entry 16). The keypad agent's moment is used up at the
sample alone, so that a reset which cuts the poll before it leaves that moment to the next poll's first sample (DESIGN
CHOICE, log entry 26). -/
def captureClock (s : State) : State := clockColumns (freeSwitches s) (keypadAnswer s) s

/-- One tick of a row's settling (R142), with `left` of its ticks to go: the answer is captured as many ticks before the
sample as there are flip-flops to pass (R32), and a row that settles for fewer is sampled too early (R278). -/
def settleTick (left : Nat) (s : State) : State := if left = syncStages then captureClock s else clock s

/-- `n` ticks in which the keypad and the synchroniser do `tickAt`, which is told how many of them are to go. -/
def passTicks (tickAt : Nat → State → State) : Nat → State → State
  | 0, s => s
  | n + 1, s => passTicks tickAt n (tickAt (n + 1) s)

/-- `Hold(n)` (R9, R10): `n` ticks in which no line changes, and nothing else but the keypad and the synchroniser. -/
def waitFor (tickAt : Nat → State → State) (n : Nat) (s : State) : State :=
  State.logEvent (.hold n)
    { s with
      colSync := (passTicks tickAt n s).colSync
      switches := (passTicks tickAt n s).switches
      clocks := s.clocks + n }

/-! The primitives. -/

/-- The row outputs change (R75: all four in one event). -/
def setRows (v : Nibble) (s : State) : State := State.logEvent (.driveRows v) { s with rowOut := v }

/-- The data line changes. -/
def setData (v : Bool) (s : State) : State :=
  State.logEvent (.drive .data v)
    { s with data := v, chain := keptContents s.params s.chain, latched := keptContents s.params s.latched }

/-- The shift clock line changes, and the external register reacts (R212). -/
def setClk (v : Bool) (s : State) : State :=
  State.logEvent (.drive .clk v)
    { s with clk := v, chain := chainAfterClk s.params s.clk v s.data s.chain,
             latched := keptContents s.params s.latched }

/-- The latch line changes, and the external register reacts (R213). -/
def setLatch (v : Bool) (s : State) : State :=
  State.logEvent (.drive .latch v)
    { s with latch := v, chain := keptContents s.params s.chain,
             latched := qAfterLatch s.params s.latch v s.chain s.latched }

/-- `DriveRows(v4)` (R9), one tick; the rows change at its end. -/
def driveRows (v : Nibble) (s : State) : State := setRows v (clock s)

/-- `Drive(DATA, v)` (R9), one tick. -/
def driveData (v : Bool) (s : State) : State := setData v (clock s)

/-- `Drive(CLK, v)` (R9), one tick. -/
def driveClk (v : Bool) (s : State) : State := setClk v (clock s)

/-- `Drive(LATCH, v)` (R9), one tick. -/
def driveLatch (v : Bool) (s : State) : State := setLatch v (clock s)

/-- `Hold(n)` in a write (R203). -/
def holdFor (n : Nat) (s : State) : State := waitFor (fun _ => clock) n s

/-- `Hold(n)` while a row settles (R142). -/
def settleFor (n : Nat) (s : State) : State := waitFor settleTick n s

/-- What `SampleCols()` returns (R9, R143): the columns as they stand behind the synchroniser (R32). -/
def columnSample (s : State) : Nibble := s.colSync[1]

/-- What the column lines carry in the sample's own tick: too late to be sampled. -/
def lateLines (s : State) : Nibble :=
  sampleOf s.params.keypadEnv s.rowOut { upcoming s 0 with draw := (upcoming s 0).late }

/-- The state after `SampleCols()`, one tick: the switches are those the sample reads (R162), the keypad agent has moved
on, the columns have passed on by one stage, and no other register changes (R76). -/
def afterSample (s : State) : State :=
  State.logEvent (.sample (columnSample s))
    { clockColumns (upcoming s 0).switches (lateLines s) s with
      keypad := s.keypad.drop 1
      draws := if s.keypad.isEmpty then s.draws + 1 else s.draws }

/-- `RESULT <- w; Respond()` (R9, R46), one tick: the result is on `rsp_word` in the tick in which `rsp_valid` pulses,
and `BUSY` is cleared. -/
def respond (w : Word) (s : State) : State :=
  State.logEvent (.respond w)
    { clock s with result := w, rspValid := true, seq := none, responses := s.responses ++ [w] }

/-- A `WRITE_ARRAY` is running and its `Drive(LATCH, 1)` has happened (R205, R271). -/
def latchDriven (s : State) : Bool :=
  match s.seq with
  | none => false
  | some q =>
    match q.phase with
    | .holdLatchHigh | .latchLow | .holdLatchLow => true
    | .respond =>
      match q.cmd with
      | .writeArray _ => true
      | .poll | .pollE | .edgeNone | .edge _ => false
    | .driveRow | .settle | .sample | .park => false
    | .setData | .holdData | .clkHigh | .holdClkHigh | .clkLow | .holdClkLow | .latchHigh => false

/-- A rising edge of `clk` with `rst = 1` (R270): every block register takes its reset value, the lines at once, and a
running command is abandoned with no response (R271). The external register sees the line levels that change
(R271), and nothing else of it changes (R272), but that a write cut at or after `Drive(LATCH, 1)` leaves `Q` known, the
image (R271, C11; DEDUCED, log entry 25). The events and their order are DEDUCED from R75, log entry 12. The
synchroniser's stages, unspecified after reset (10_state.md section 5), take free values (DESIGN CHOICE, log entry
15). -/
def applyReset (s : State) : State :=
  setLatch false (setClk false (setData false (setRows 0#4
    { s with result := 0#16, edgePrev := none, rspValid := false, seq := none,
             colSync := Config.freeSync s.clocks, switches := freeSwitches s, clocks := s.clocks + 1,
             written := s.written || latchDriven s })))

end Sys2Proof.Machine
end

