-- ==== Sys2Proof/Machine/EdgeDetector.lean ====
section
/-! DEFINITION. The edge detector (41_edge_detector.md): the edge function of R181 and the two forms of the command
`EDGE x` (R182). A meaning begins with the tick in which the command is accepted (10_state.md R45). -/

namespace Sys2Proof.Machine

/-- The edge function of R181: the key that fires, and the next `EDGE_PREV`. -/
def edge (prev x : Option Key) : Option Key × Option Key :=
  match x with
  | none => (none, none)
  | some k => if prev = some k then (none, some k) else (some k, some k)

/-- The end of `EDGE x` (R182): the detector runs on `x`, and the key fields of the result are 0. -/
def completeEdge (x : Option Key) (s : State) : State :=
  respond (resultWord none (edge s.edgePrev x).1) { s with edgePrev := (edge s.edgePrev x).2 }

/-- `EDGE NONE` (R182). -/
def execEdgeNone (s : State) : Host.Outcome State Fault Refusal := .next (completeEdge none (clock s))

/-- `EDGE k` (R182). -/
def execEdge (k : Key) (s : State) : Host.Outcome State Fault Refusal := .next (completeEdge (some k) (clock s))

end Sys2Proof.Machine
end

