-- ==== Sys2Proof/Machine/Scanner.lean ====
section
/-! DEFINITION. The matrix keypad scanner (40_keypad_scanner.md): the scan of R149 and the commands `POLL` (R150) and
`POLL.E` (R151). A meaning begins with the tick in which the command is accepted (10_state.md R45). -/

namespace Sys2Proof.Machine

/-- Drive one row and let it settle (R141, R142). -/
def visitRow (r : Fin nRows) (s : State) : State := settleFor s.params.settleTicks (driveRows (onehot4 r) s)

/-- The loop of R149 over the rows still to visit: the position found, and the state after the scan. -/
def scanRows : List (Fin nRows) → State → Option Position × State
  | [], s => (none, driveRows 0#4 s)
  | r :: rows, s =>
    let seen := columnSample (visitRow r s)
    let after := afterSample (visitRow r s)
    if seen ≠ 0#4 then (some (r, ctz4 seen), driveRows 0#4 after) else scanRows rows after

/-- `scan()` (R149). -/
def scan (s : State) : Option Position × State := scanRows scanOrder s

/-- `lookup(p)` (R149, R146). -/
def lookup (p : Params) (found : Option Position) : Option Key := found.map (keyAt p)

/-- The end of `POLL` (R150): the raw key, and no fire. -/
def completePoll (k : Option Key) (s : State) : State := respond (resultWord k none) s

/-- The end of `POLL.E` (R151): the raw key, and the edge detector run on it. -/
def completePollE (k : Option Key) (s : State) : State :=
  respond (resultWord k (edge s.edgePrev k).1) { s with edgePrev := (edge s.edgePrev k).2 }

/-- `POLL` (R150). -/
def execPoll (s : State) : Host.Outcome State Fault Refusal :=
  .next (completePoll (lookup s.params (scan (clock s)).1) (scan (clock s)).2)

/-- `POLL.E` (R151). -/
def execPollE (s : State) : Host.Outcome State Fault Refusal :=
  .next (completePollE (lookup s.params (scan (clock s)).1) (scan (clock s)).2)

end Sys2Proof.Machine
end

