-- ==== Sys2Proof/Machine/ShiftDriver.lean ====
section
/-! DEFINITION. The serial shift-register driver (42_shift_register.md): one bit (R201), the latch pulse (R202), the
hold after every transition (R203), and the command `WRITE_ARRAY` (R204), whose meaning begins with the tick of its
acceptance (10_state.md R45). -/

namespace Sys2Proof.Machine

/-- The hold after a transition of `DATA`, `CLK` or `LATCH` (R203). -/
def holdLine (s : State) : State := holdFor s.params.holdTicks s

/-- One bit (R201): set the data line, pulse the clock. -/
def shiftBit (b : Image) (i : Fin imgWidth) (s : State) : State :=
  holdLine (driveClk false (holdLine (driveClk true (holdLine (driveData (imageElement b i) s)))))

/-- The latch pulse (R202). -/
def pulseLatch (s : State) : State := holdLine (driveLatch false (holdLine (driveLatch true s)))

/-- The bits of an image at the elements of a list, in that order (R204). -/
def shiftBits (b : Image) (order : List (Fin imgWidth)) (s : State) : State :=
  order.foldl (fun t i => shiftBit b i t) s

/-- The line sequence of `WRITE_ARRAY` (R204): eight bits in `SHIFT_ORDER`, then the latch pulse. -/
def writeSequence (b : Image) (s : State) : State := pulseLatch (shiftBits b (shiftOrder s.params.shiftOrder) s)

/-- The end of `WRITE_ARRAY` (R204): `RESULT <- 0x0000`. `Q` is known from here on (R272). -/
def completeWrite (s : State) : State := respond (resultWord none none) { s with written := true }

/-- `WRITE_ARRAY B` (R204). -/
def execWriteArray (b : Image) (s : State) : Host.Outcome State Fault Refusal :=
  .next (completeWrite (writeSequence b (clock s)))

end Sys2Proof.Machine
end

