-- ==== Sys2Proof/Machine/Dispatch.lean ====
section
/-! DEFINITION. The meaning of each command, one arm per constructor of `Instr`. -/

namespace Sys2Proof.Machine

def exec (i : Instr) (s : State) : Host.Outcome State Fault Refusal :=
  match i with
  | .poll => Sys2Proof.Machine.execPoll s
  | .pollE => Sys2Proof.Machine.execPollE s
  | .edgeNone => Sys2Proof.Machine.execEdgeNone s
  | .edge k => Sys2Proof.Machine.execEdge k s
  | .writeArray b => Sys2Proof.Machine.execWriteArray b s

end Sys2Proof.Machine
end

