-- ==== Sys2Proof/Machine/Sequencer.lean ====
section
/-! DEFINITION. The block's sequencer, one clock tick at a time (10_state.md R36, R44 to R47; 70_reset_and_hazards.md
R270, R271, R285): one tick for each line event, `n` ticks for `Hold(n)`, one for each sample and one for the
response. In every tick the columns pass on through the synchroniser (R32). -/

namespace Sys2Proof.Machine

/-- `BUSY` (R36). -/
def State.busy (s : State) : Bool := s.seq.isSome

/-- Write the sequencer's fields (R36). -/
def State.setSeq (q : Sequencer) (s : State) : State := { s with seq := some q }

/-- The first phase of a command (R150, R151, R182, R204). -/
def firstPhase : Instr → Phase
  | .poll => .driveRow
  | .pollE => .driveRow
  | .edgeNone => .respond
  | .edge _ => .respond
  | .writeArray _ => .setData

/-- The image buffer a command starts with: `IMG <- B` (R204). -/
def startImage : Instr → Image
  | .poll => 0#8
  | .pollE => 0#8
  | .edgeNone => 0#8
  | .edge _ => 0#8
  | .writeArray b => b

/-- The sequencer's fields at the acceptance of a command (R45). Those the command does not use are 0 (DESIGN CHOICE,
log entry 9). -/
def startOf (p : Params) (i : Instr) : Sequencer :=
  { cmd := i, phase := firstPhase i, row := 0, bit := firstElement p.shiftOrder, hold := 0,
    img := startImage i, pending := none }

/-- The acceptance of a command (R45): the block latches it and sets `BUSY`. -/
def accept (i : Instr) (s : State) : State := State.setSeq (startOf s.params i) { clock s with rspValid := false }

/-- The end of a command at its response (R46), from the key its scan found. -/
def complete (i : Instr) (found : Option Key) (s : State) : State :=
  match i with
  | .poll => completePoll found s
  | .pollE => completePollE found s
  | .edgeNone => completeEdge none s
  | .edge k => completeEdge (some k) s
  | .writeArray _ => completeWrite s

/-- One tick of a `Hold(n)` (R9): the counter goes down, and in its last tick the hold is complete and on the trace
(DEDUCED from R78, log entry 11). `tickAt` is what the keypad and the synchroniser do in it. -/
def holdTick (tickAt : Nat → State → State) (n : Nat) (after : Phase) (q : Sequencer) (s : State) : State :=
  if q.hold ≤ 1 then State.setSeq { q with phase := after, hold := 0 } (State.logEvent (.hold n) (tickAt q.hold s))
  else State.setSeq { q with hold := q.hold - 1 } (tickAt q.hold s)

/-- The tick of a column sample (R143 to R146): stop at the first active row, else go on to the next, else end with
no key. -/
def sampleTick (q : Sequencer) (s : State) : State :=
  let seen := columnSample s
  if seen ≠ 0#4 then
    State.setSeq { q with phase := .park, pending := some (keyAt s.params (q.row, ctz4 seen)) } (afterSample s)
  else if q.row = 3 then State.setSeq { q with phase := .park, pending := none } (afterSample s)
  else State.setSeq { q with phase := .driveRow, row := q.row + 1 } (afterSample s)

/-- The phase after the last hold of one bit: the next element, or the latch pulse after the eighth (R204). -/
def afterBit (o : ShiftOrder) (q : Sequencer) : Sequencer :=
  match nextElement o q.bit with
  | some i => { q with phase := .setData, bit := i, hold := 0 }
  | none => { q with phase := .latchHigh, hold := 0 }

/-- The tick of the hold after `Drive(CLK, 0)` (R201). -/
def bitEndTick (q : Sequencer) (s : State) : State :=
  if q.hold ≤ 1 then State.setSeq (afterBit s.params.shiftOrder q) (State.logEvent (.hold s.params.holdTicks) (clock s))
  else State.setSeq { q with hold := q.hold - 1 } (clock s)

/-- One tick of a running command with `rst = 0` (R36, R47). -/
def seqTick (q : Sequencer) (s : State) : State :=
  match q.phase with
  | .driveRow => State.setSeq { q with phase := .settle, hold := s.params.settleTicks } (driveRows (onehot4 q.row) s)
  | .settle => holdTick settleTick s.params.settleTicks .sample q s
  | .sample => sampleTick q s
  | .park => State.setSeq { q with phase := .respond } (driveRows 0#4 s)
  | .setData =>
    State.setSeq { q with phase := .holdData, hold := s.params.holdTicks } (driveData (imageElement q.img q.bit) s)
  | .holdData => holdTick (fun _ => clock) s.params.holdTicks .clkHigh q s
  | .clkHigh => State.setSeq { q with phase := .holdClkHigh, hold := s.params.holdTicks } (driveClk true s)
  | .holdClkHigh => holdTick (fun _ => clock) s.params.holdTicks .clkLow q s
  | .clkLow => State.setSeq { q with phase := .holdClkLow, hold := s.params.holdTicks } (driveClk false s)
  | .holdClkLow => bitEndTick q s
  | .latchHigh => State.setSeq { q with phase := .holdLatchHigh, hold := s.params.holdTicks } (driveLatch true s)
  | .holdLatchHigh => holdTick (fun _ => clock) s.params.holdTicks .latchLow q s
  | .latchLow => State.setSeq { q with phase := .holdLatchLow, hold := s.params.holdTicks } (driveLatch false s)
  | .holdLatchLow => holdTick (fun _ => clock) s.params.holdTicks .respond q s
  | .respond => complete q.cmd q.pending s

/-- One tick with `rst = 0` in which the block accepts no command: a running command goes on (R47); an idle block does
nothing but clock its synchroniser; `rsp_valid` is 0 but in a response tick (R46). -/
def runTick (s : State) : State :=
  match s.seq with
  | none => { clock s with rspValid := false }
  | some q => seqTick q { s with rspValid := false }

/-- `n` ticks with `rst = 0` in which the block accepts no command. -/
def runTicks : Nat → State → State
  | 0, s => s
  | n + 1, s => runTicks n (runTick s)

/-- `cmd_ready` (R45): 1 exactly when `BUSY = 0` and `rst = 0`. -/
def cmdReady (pins : Pins) (s : State) : Bool := !s.busy && !pins.rst

/-- What one tick gives: the next state, or the acceptance of a reserved word, to which the model gives no meaning
(R241). -/
inductive TickResult where
  | goes (s : State)
  | reservedAccepted (w : Word)
  deriving DecidableEq, Repr

/-- One tick with the host's levels on the input ports (R44 to R46, R245, R270): reset wins; else an idle block accepts
the word the host presents; else the block goes on. -/
def tick (pins : Pins) (s : State) : TickResult :=
  if pins.rst then .goes (applyReset s)
  else if cmdReady pins s && pins.cmdValid then
    match decode pins.cmdWord with
    | .command i => .goes (accept i s)
    | .reserved w => .reservedAccepted w
  else .goes (runTick s)

/-- The levels of the output ports (R44). -/
structure Outputs where
  cmdReady : Bool
  rspValid : Bool
  rspWord  : Word
  rowOut   : Nibble
  srData   : Bool
  srClk    : Bool
  srLatch  : Bool
  deriving DecidableEq, Repr

/-- The output ports in a tick that takes the block from `s` to `after` (R44 to R46): `cmd_ready` answers for the
registers the tick starts with, and the rest shows what the tick's event put there, so that in the response tick
`rsp_valid = 1`, `rsp_word` is new and `cmd_ready = 0`. DEDUCED, log entry 10. -/
def outputs (pins : Pins) (s after : State) : Outputs :=
  { cmdReady := cmdReady pins s, rspValid := after.rspValid, rspWord := after.result, rowOut := after.rowOut,
    srData := after.data, srClk := after.clk, srLatch := after.latch }

/-- The tick counts of R285, from the tick after acceptance to the response tick inclusive, for a scan that ends at
the given row or finds nothing. -/
def tickCount (p : Params) (endRow : Option (Fin nRows)) : Instr → Nat
  | .poll => (endRow.map (fun r => r.val + 1)).getD nRows * (p.settleTicks + 2) + 2
  | .pollE => (endRow.map (fun r => r.val + 1)).getD nRows * (p.settleTicks + 2) + 2
  | .edgeNone => 1
  | .edge _ => 1
  | .writeArray _ => 26 * (1 + p.holdTicks) + 1

end Sys2Proof.Machine
end

