-- ==== Sys2Proof/Machine/HostPort.lean ====
section
/-! DEFINITION. How the block gets its next command (10_state.md R41, R45): the block fetches nothing, and the host's
next move decides what one step of the machine is. -/

namespace Sys2Proof.Machine

/-- What one step of the machine does. -/
inductive Fetched where
  /-- Run this command to completion from this state (the transaction level of R5). -/
  | run (i : Instr) (s : State)
  /-- The block has moved on by one tick (the line level of R5). -/
  | ticked (s : State)
  /-- A reserved word is accepted (R241). -/
  | reservedAccepted (w : Word)
  /-- Clock, power or platform lost (X22). -/
  | lost
  deriving DecidableEq, Repr

/-- A tick's result as what the step does. -/
def Fetched.ofTick : TickResult → Fetched
  | .goes s => .ticked s
  | .reservedAccepted w => .reservedAccepted w

/-- Nothing presented on the input ports. -/
def Pins.idle : Pins := { rst := false, cmdValid := false, cmdWord := 0#16 }

/-- A command word presented on the input ports. -/
def Pins.present (w : Word) : Pins := { rst := false, cmdValid := true, cmdWord := w }

/-- The host's next move. A command the block cannot accept yet stays presented while the block goes on (R45: "a host
holding `cmd_valid = 1` waits"). With no move listed, the host presents nothing for a tick
(DESIGN CHOICE, log entry 2). -/
def fetch (s : State) : Fetched :=
  match s.host with
  | [] => Fetched.ofTick (tick Pins.idle s)
  | .command w :: rest =>
    if s.busy then Fetched.ofTick (tick (Pins.present w) s)
    else
      match decode w with
      | .command i => .run i { s with host := rest }
      | .reserved r => .reservedAccepted r
  | .clock pins :: rest => Fetched.ofTick (tick pins { s with host := rest })
  | .platformLoss :: _ => .lost

/-- The state with a command word as the host's next move, before its other moves, and no command in flight, so that
the next step accepts and runs that word (DESIGN CHOICE, log entry 22). -/
def presentWord (s : State) (w : Word) : State := { s with host := .command w :: s.host, seq := none }

end Sys2Proof.Machine
end

