-- ==== Sys2Proof/Machine/Step.lean ====
section
/-! DEFINITION. One step of the machine: the host's next move (HostPort.lean), and a command's meaning (Dispatch.lean)
where that move hands the block a command. -/

namespace Sys2Proof.Machine

/-- One step (00_scope.md R5, R6): a whole command at the transaction level, or one tick at the line level. -/
def step (s : State) : Host.Outcome State Fault Refusal :=
  match fetch s with
  | .run i t => exec i t
  | .ticked t => .next t
  | .reservedAccepted w => .refused (.reservedCommand w)
  | .lost => .fault .platformLost

/-- The state with the table instruction whose bits are `w` (bits at `nbits` and above being 0) as the host's next
command, so that the next step runs exactly it. -/
def State.withFetchWord (s : State) (nbits w : Nat) : State := presentWord s (BitVec.ofNat 16 (w % 2 ^ nbits))

end Sys2Proof.Machine
end

