-- ==== Sys2Proof/Machine/Assembler.lean ====
section
/-! DEFINITION. The assembler of 30_encoding.md R110 and R111: one command per line of text, and the program a host
issues (10_state.md R41). How blanks and hexadecimal digits are read is a DESIGN CHOICE, log entry 18. -/

namespace Sys2Proof.Machine

/-- `sum(bi << i)` of R110: the image of an array literal, element 0 first. -/
def imageOfBits (bits : Vector Bool imgWidth) : Image :=
  BitVec.ofBool bits[7] ++ BitVec.ofBool bits[6] ++ BitVec.ofBool bits[5] ++ BitVec.ofBool bits[4] ++
    BitVec.ofBool bits[3] ++ BitVec.ofBool bits[2] ++ BitVec.ofBool bits[1] ++ BitVec.ofBool bits[0]

/-- The word of a line (R110, R111). -/
def assemble : AsmLine → Word
  | .poll => encode .poll
  | .pollE => encode .pollE
  | .edgeNone => encode .edgeNone
  | .edge k => encode (.edge k)
  | .writeBits bits => encode (.writeArray (imageOfBits bits))
  | .writeHex b => encode (.writeArray b)
  | .rawWord w => w
  | .edgeClr => encode .edgeNone
  | .outClr => encode (.writeArray 0x00#8)
  | .outSet => encode (.writeArray 0xFF#8)

/-- Key names are case-sensitive as R106 and R110 write them. -/
def keyNamed (name : List Char) : Option Key :=
  match name with
  | ['Z', 'e', 'r', 'o'] => some .zero
  | ['O', 'n', 'e'] => some .one
  | ['T', 'w', 'o'] => some .two
  | ['T', 'h', 'r', 'e', 'e'] => some .three
  | ['F', 'o', 'u', 'r'] => some .four
  | ['F', 'i', 'v', 'e'] => some .five
  | ['S', 'i', 'x'] => some .six
  | ['S', 'e', 'v', 'e', 'n'] => some .seven
  | ['E', 'i', 'g', 'h', 't'] => some .eight
  | ['N', 'i', 'n', 'e'] => some .nine
  | ['A'] => some .a
  | ['B'] => some .b
  | ['C'] => some .c
  | ['D'] => some .d
  | ['S', 't', 'a', 'r'] => some .star
  | ['H', 'a', 's', 'h'] => some .hash
  | _ => none

/-- A hexadecimal digit, in either case of letter. -/
def hexDigit (ch : Char) : Option Nat :=
  let n := ch.toNat
  if 48 ≤ n ∧ n ≤ 57 then some (n - 48)
  else if 65 ≤ n ∧ n ≤ 70 then some (n - 55)
  else if 97 ≤ n ∧ n ≤ 102 then some (n - 87)
  else none

/-- The number some hexadecimal digits write, first digit most significant. -/
def hexNumber (digits : List Char) : Option Nat :=
  digits.foldl (fun acc ch => acc.bind fun n => (hexDigit ch).map fun d => n * 16 + d) (some 0)

/-- `0xNN` with exactly `digits` digits. -/
def hexLiteral (digits : Nat) (text : List Char) : Option Nat :=
  match text with
  | '0' :: 'x' :: rest => if rest.length = digits then hexNumber rest else none
  | _ => none

/-- An array literal's element. -/
def bitNamed (ch : Char) : Option Bool := if ch = '0' then some false else if ch = '1' then some true else none

/-- `[b0,b1,b2,b3,b4,b5,b6,b7]`. -/
def bitArray (text : List Char) : Option (Vector Bool imgWidth) :=
  match text with
  | ['[', c0, ',', c1, ',', c2, ',', c3, ',', c4, ',', c5, ',', c6, ',', c7, ']'] => do
    let b0 ← bitNamed c0
    let b1 ← bitNamed c1
    let b2 ← bitNamed c2
    let b3 ← bitNamed c3
    let b4 ← bitNamed c4
    let b5 ← bitNamed c5
    let b6 ← bitNamed c6
    let b7 ← bitNamed c7
    return #v[b0, b1, b2, b3, b4, b5, b6, b7]
  | _ => none

/-- A blank between the parts of a line. -/
def isBlank (ch : Char) : Bool := ch == ' ' || ch == '\t'

/-- The parts of a line that blanks separate, each part's letters gathered in reverse. -/
def splitBlanks : List Char → List Char → List (List Char)
  | [], part => if part.isEmpty then [] else [part.reverse]
  | ch :: rest, part =>
    if isBlank ch then (if part.isEmpty then splitBlanks rest [] else part.reverse :: splitBlanks rest [])
    else splitBlanks rest (ch :: part)

/-- The parts of a line without its comment: a `;` starts a comment to the end of the line (R110). -/
def lineParts (text : List Char) : List (List Char) := splitBlanks (text.takeWhile (fun ch => ch ≠ ';')) []

/-- The operand of `EDGE` (R110). -/
def edgeOperand (text : List Char) : Option AsmLine :=
  if text = "NONE".toList then some .edgeNone else (keyNamed text).map .edge

/-- The operand of `WRITE_ARRAY` (R110). -/
def writeOperand (text : List Char) : Option AsmLine :=
  match bitArray text with
  | some bits => some (.writeBits bits)
  | none => (hexLiteral 2 text).map fun n => .writeHex (BitVec.ofNat 8 n)

/-- A line's command from its parts. -/
def parseParts (parts : List (List Char)) : Option AsmLine :=
  match parts with
  | [m] =>
    if m = "POLL".toList then some .poll
    else if m = "POLL.E".toList then some .pollE
    else if m = "EDGE.CLR".toList then some .edgeClr
    else if m = "OUT.CLR".toList then some .outClr
    else if m = "OUT.SET".toList then some .outSet
    else none
  | [m, x] =>
    if m = "EDGE".toList then edgeOperand x
    else if m = "WRITE_ARRAY".toList then writeOperand x
    else if m = ".word".toList then (hexLiteral 4 x).map fun n => .rawWord (BitVec.ofNat 16 n)
    else none
  | _ => none

/-- What a line of text is. -/
inductive ParsedLine where
  | blank
  | word (w : Word)
  | malformed
  deriving DecidableEq, Repr

/-- One line of assembler text (R110, R111). -/
def assembleText (text : List Char) : ParsedLine :=
  let parts := lineParts text
  if parts.isEmpty then .blank
  else
    match parseParts parts with
    | some line => .word (assemble line)
    | none => .malformed

/-- A host that issues a program's command words in order (R41). -/
def State.withProgram (words : List Word) (s : State) : State := { s with host := words.map .command }

end Sys2Proof.Machine
end

