-- ==== Sys2Proof/Safety.lean ====
section
/-! DEFINITION. What the spec says of every state of the block between two events: the row outputs (R30, R141), the
driver's lines (R31, R276), the result word (R107), and which phases belong to which command (R152, R205). -/

namespace Sys2Proof.Machine

/-- R30: `ROW_OUT` is `0b0000` or one-hot; no other value is ever held. -/
def rowsLegal (v : Nibble) : Bool := v == 0#4 || scanOrder.any (fun r => v == onehot4 r)

/-- R107: the result word is one that some pair of an optional key and an optional fired key gives, so its reserved
bits are 0 and each code is 0 where its valid bit is 0. -/
def resultCanonical (w : Word) : Prop := ∃ key fire : Option Key, w = resultWord key fire

/-- The phases of a scan. -/
def Phase.scanning : Phase → Bool
  | .driveRow | .settle | .sample | .park => true
  | .setData | .holdData | .clkHigh | .holdClkHigh | .clkLow | .holdClkLow => false
  | .latchHigh | .holdLatchHigh | .latchLow | .holdLatchLow | .respond => false

/-- The phases belong to the command (R152, R205, R182): scan phases to `POLL` and `POLL.E`, shift and latch phases to
`WRITE_ARRAY`, whose image buffer holds its operand, and only the response to `EDGE`. -/
def Sequencer.fitsCommand (q : Sequencer) : Bool :=
  match q.cmd with
  | .poll => q.phase.scanning || q.phase == .respond
  | .pollE => q.phase.scanning || q.phase == .respond
  | .edgeNone => q.phase == .respond
  | .edge _ => q.phase == .respond
  | .writeArray b => !q.phase.scanning && q.img == b

/-- `ROW_OUT` in each phase (R141, R147, R152): the row of the scan while it settles and is sampled, the row before it
until it is driven, and low outside a scan. -/
def Sequencer.rowsExpected (q : Sequencer) : Nibble :=
  match q.phase with
  | .driveRow => if q.row = 0 then 0#4 else onehot4 (q.row - 1)
  | .settle | .sample | .park => onehot4 q.row
  | .setData | .holdData | .clkHigh | .holdClkHigh | .clkLow | .holdClkLow => 0#4
  | .latchHigh | .holdLatchHigh | .latchLow | .holdLatchLow | .respond => 0#4

/-- `CLK` in each phase (R201, R205). -/
def Phase.clkExpected : Phase → Bool
  | .holdClkHigh | .clkLow => true
  | .driveRow | .settle | .sample | .park | .setData | .holdData | .clkHigh | .holdClkLow => false
  | .latchHigh | .holdLatchHigh | .latchLow | .holdLatchLow | .respond => false

/-- `LATCH` in each phase (R202, R205). -/
def Phase.latchExpected : Phase → Bool
  | .holdLatchHigh | .latchLow => true
  | .driveRow | .settle | .sample | .park | .setData | .holdData | .clkHigh | .holdClkHigh | .clkLow => false
  | .holdClkLow | .latchHigh | .holdLatchLow | .respond => false

/-- The block's lines stand as its sequencer's phase says; with no command running the rows, the clock and the latch
are low (R31, R147, R276). -/
def linesConsistent (s : State) : Bool :=
  match s.seq with
  | none => s.rowOut == 0#4 && !s.clk && !s.latch
  | some q =>
    q.fitsCommand && s.rowOut == q.rowsExpected && s.clk == q.phase.clkExpected && s.latch == q.phase.latchExpected

/-- The invariant of the machine: what every step keeps. -/
structure Inv (s : State) : Prop where
  params   : s.params.wf = true
  lines    : linesConsistent s = true
  result   : resultCanonical s.result
  external : s.params.registerFollows = false → s.chain = Stages.unknown ∧ s.latched = Stages.unknown

/-- What a run shows (R49): the response words, the final block registers of R30 to R34, the final `Q`, and the
line-level trace. -/
structure Observation where
  responses : List Word
  rowOut    : Nibble
  data      : Bool
  clk       : Bool
  latch     : Bool
  result    : Word
  edgePrev  : Option Key
  q         : Stages
  trace     : List LineEvent
  deriving DecidableEq, Repr

/-- The observation of a run that ends in this state (R49). -/
def State.observe (s : State) : Observation :=
  { responses := s.responses, rowOut := s.rowOut, data := s.data, clk := s.clk, latch := s.latch, result := s.result,
    edgePrev := s.edgePrev, q := s.q, trace := s.trace }

/-- A run of a program of `n` commands that began with `before` responses has ended (R49): no command is in flight and
there are `n` responses more. -/
def runEnded (before n : Nat) (s : State) : Prop := s.seq = none ∧ s.responses.length = before + n

end Sys2Proof.Machine
end

