-- ==== Sys2Proof/Certificates/Slice0/Obligations.lean ====
section
/-! DEFINITION. The statements for the provers. `Sys2Proof.Expect` first writes out, from the spec's rules and without
the model's scan and shift recursions, what a poll and a write leave; each obligation's docstring names its rule. -/

namespace Sys2Proof.Expect

open Sys2Proof.Machine

/-- The sample `s_r` a poll that reaches row `r` takes (R143): row `r` is the only one driven high, and it is the
poll's sample number `r`. -/
def rowSample (s : State) (r : Fin nRows) : Nibble := sampleOf s.params.keypadEnv (onehot4 r) (upcoming s r.val)

/-- `SETTLE_TICKS` meets its constraint (R142), so that a sample has passed the synchroniser (R32). -/
def Settles (s : State) : Prop := syncStages + 1 ≤ s.params.settleTicks

/-- R149's pure function of the samples: the least row with a sample that is not 0, and its lowest active column. -/
def found (s : State) : Option Position :=
  if rowSample s 0 ≠ 0#4 then some (0, ctz4 (rowSample s 0))
  else if rowSample s 1 ≠ 0#4 then some (1, ctz4 (rowSample s 1))
  else if rowSample s 2 ≠ 0#4 then some (2, ctz4 (rowSample s 2))
  else if rowSample s 3 ≠ 0#4 then some (3, ctz4 (rowSample s 3))
  else none

/-- The key of the position found (R146). -/
def foundKey (s : State) : Option Key := (found s).map (keyAt s.params)

/-- The row of the last sample a poll takes (R152). -/
def lastRow (s : State) : Fin nRows :=
  match found s with
  | some pos => pos.1
  | none => 3

/-- The events of visiting a row (R152). -/
def rowEvents (s : State) (r : Fin nRows) : List LineEvent :=
  [.driveRows (onehot4 r), .hold s.params.settleTicks, .sample (rowSample s r)]

/-- The line-level trace of a poll up to its response (R152). -/
def pollEvents (s : State) : List LineEvent :=
  (scanOrder.take ((lastRow s).val + 1)).flatMap (rowEvents s) ++ [.driveRows 0#4]

/-- What a scan leaves: the rows low, the keypad agent as many samples further, the trace longer, nothing else
changed. (What the synchroniser holds and which switches are closed is not said: X18, R162, any value.) -/
def scanned (s : State) : State :=
  { s with
    rowOut := 0#4
    keypad := s.keypad.drop ((lastRow s).val + 1)
    draws := s.draws + ((lastRow s).val + 1 - s.keypad.length)
    trace := s.trace ++ pollEvents s }

/-- What a response leaves (R46): `RESULT`, the pulse, `BUSY = 0`, and the observation of both. -/
def responded (w : Word) (s : State) : State :=
  { s with
    result := w
    rspValid := true
    seq := none
    responses := s.responses ++ [w]
    trace := s.trace ++ [.respond w] }

/-- The key that fires when the detector holding `prev` is given `x` (R181: `f = x` when `x != None` and
`x != prev`, else `None`). -/
def fired (prev x : Option Key) : Option Key := if x ≠ none ∧ x ≠ prev then x else none

/-- The events of one bit (R201, R205). -/
def bitEvents (h : Nat) (b : Image) (i : Fin imgWidth) : List LineEvent :=
  [.drive .data (imageElement b i), .hold h, .drive .clk true, .hold h, .drive .clk false, .hold h]

/-- The line-level trace of `WRITE_ARRAY B` up to its response (R205). -/
def writeEvents (p : Params) (b : Image) : List LineEvent :=
  (shiftOrder p.shiftOrder).flatMap (bitEvents p.holdTicks b) ++
    [.drive .latch true, .hold p.holdTicks, .drive .latch false, .hold p.holdTicks]

/-- The external register's contents after a whole write (R208), where it follows R212 and R213 (X15, X16). -/
def loaded (p : Params) (b : Image) : Stages :=
  if p.registerFollows then Stages.ofByte (outmap p.shiftOrder b) else Stages.unknown

/-- Between commands (R31, R147): no command runs, and the rows, the clock and the latch are low. -/
def Idle (s : State) : Prop := s.seq = none ∧ s.rowOut = 0#4 ∧ s.clk = false ∧ s.latch = false

/-- A running `WRITE_ARRAY b`, `n` ticks after its acceptance in `s`. -/
def writing (b : Image) (n : Nat) (s : State) : State := runTicks n (accept (.writeArray b) s)

/-- The tick, counted from acceptance, after which `Drive(LATCH, 1)` has happened (R205, R285): event 25. -/
def latchTick (p : Params) : Nat := 24 * (1 + p.holdTicks) + 1

/-- The tick after which the latch line has made its active edge: event 25 or 26 (R205, R213). -/
def activeTick (p : Params) : Nat :=
  match p.latchEdge with
  | .rising => 24 * (1 + p.holdTicks) + 1
  | .falling => 25 * (1 + p.holdTicks) + 1

/-- The tick after which `Q` shows the image of a write: the latch's active edge (R209, R213), but for the first write
after power-up, in which `Q` is unknown up to its response (R272, X13; R285 for the tick). -/
def shownTick (s : State) : Nat := if s.written then activeTick s.params else 26 * (1 + s.params.holdTicks) + 1

/-- How many rising clock edges have happened `n` ticks after acceptance (R205, R285): the `j`-th is event `3*j - 1`. -/
def risingEdges (p : Params) (n : Nat) : Nat := min 8 ((n - 1 + 2 * (1 + p.holdTicks)) / (3 * (1 + p.holdTicks)))

/-- `CHAIN` after the first `k` elements of an image have been shifted in (R212). -/
def shifted (p : Params) (b : Image) (k : Nat) (old : Stages) : Stages :=
  ((shiftOrder p.shiftOrder).take k).foldl (fun c i => shiftIn c (imageElement b i)) old

/-- The fires of successive activations on the inputs `xs` from `prev` (R185): each input against the one before it. -/
def fires : Option Key → List (Option Key) → List (Option Key)
  | _, [] => []
  | prev, x :: xs => (if x ≠ none ∧ x ≠ prev then x else none) :: fires x xs

/-- The commands `EDGE x` run one after the other. -/
def runEdges : List (Option Key) → State → Host.Outcome State Fault Refusal
  | [], s => .next s
  | x :: xs, s =>
    match exec (.edgeOf x) s with
    | .next t => runEdges xs t
    | .fault r => .fault r
    | .refused r => .refused r

/-- An event of the lines, not a response (R10). -/
def isLineEvent : LineEvent → Bool
  | .respond _ => false
  | .drive _ _ | .driveRows _ | .hold _ | .sample _ => true

/-- A row line in the connected component of column `k` (R160): one whose switch at `k` is closed, or one that shares
a column, by two closed switches, with a row line of the component. -/
inductive Joined (P : Switches) (k : Fin nCols) : Fin nRows → Prop where
  | direct (r : Fin nRows) : P[r].getLsbD k.val = true → Joined P k r
  | through (r r' : Fin nRows) (j : Fin nCols) :
      Joined P k r → P[r].getLsbD j.val = true → P[r'].getLsbD j.val = true → Joined P k r'

/-- The closed switch with the lowest row, and in that row the lowest column (R161). -/
def lowestClosed (P : Switches) : Option Position :=
  if P[0] ≠ 0#4 then some (0, ctz4 P[0])
  else if P[1] ≠ 0#4 then some (1, ctz4 P[1])
  else if P[2] ≠ 0#4 then some (2, ctz4 P[2])
  else if P[3] ≠ 0#4 then some (3, ctz4 P[3])
  else none

/-- The edge detector is activated by this step (R180): a whole `EDGE` or `POLL.E`, or the response tick of one. -/
def activates (s : State) : Prop :=
  (∃ t, fetch s = .run .pollE t) ∨ (∃ x t, fetch s = .run (.edgeOf x) t) ∨
    (∃ q, s.seq = some q ∧ q.phase = .respond ∧ (q.cmd = .pollE ∨ ∃ x, q.cmd = .edgeOf x))

/-- The running poll captures a row's answer in this tick: as many ticks of the row's settling are to go as there are
flip-flops to pass (R32, R142). -/
def captures (s : State) : Prop := ∃ q, s.seq = some q ∧ q.phase = .settle ∧ q.hold = syncStages

/-- This step is a tick with `rst = 1`. -/
def resets (s : State) : Prop := ∃ pins rest, s.host = .clock pins :: rest ∧ pins.rst = true

end Sys2Proof.Expect

open Sys2Proof Sys2Proof.Machine Sys2Proof.Expect

/-! Encoding. -/

/-- R109, round trip in both directions: a command's word decodes to it, and no other word does. -/
def Obligations.DecodeInvertsEncode : Prop :=
  ∀ i : Instr, decode (encode i) = .command i ∧ ∀ w : Word, decode w = .command i → w = encode i

/-- R105: the words the decoder refuses are those of R105's four clauses, each refused under its own word, and the step
that takes one is refused; 2 POLL forms, 17 EDGE forms and 256 WRITE_ARRAY forms are legal, 275 words, and the other
65,261 are reserved. -/
def Obligations.ReservedWordsAreThoseOfTheRule : Prop :=
  (∀ w : Word, reservedWord w = true ↔ decode w = .reserved w) ∧
  (∀ w v : Word, decode w = .reserved v → v = w) ∧
  (∀ (s : State) (w : Word) (rest : List HostMove), reservedWord w = true → s.seq = none →
    s.host = .command w :: rest → step s = .refused (.reservedCommand w)) ∧
  ∃ polls edges writes : List Word,
    polls.length = 2 ∧ edges.length = 17 ∧ writes.length = 256 ∧ (polls ++ edges ++ writes).Nodup ∧
    (polls ++ edges ++ writes).length = 275 ∧ 65536 - (polls ++ edges ++ writes).length = 65261 ∧
    (∀ w, w ∈ polls ↔ decode w = .command .poll ∨ decode w = .command .pollE) ∧
    (∀ w, w ∈ edges ↔ ∃ x, decode w = .command (.edgeOf x)) ∧
    (∀ w, w ∈ writes ↔ ∃ b, decode w = .command (.writeArray b)) ∧
    ∀ w, reservedWord w = false ↔ w ∈ polls ++ edges ++ writes

/-- spec/opcode_table.json: a legal word fits exactly its command's row, and a reserved word fits none. -/
def Obligations.OpcodeRowsSelectTheCommand : Prop :=
  ∀ w : Word,
    (∀ i, decode w = .command i → (opcodeRows.filter (fun row => row.fits w)).map OpcodeRow.mnemonic = [i.mnemonic]) ∧
    (reservedWord w = true → opcodeRows.filter (fun row => row.fits w) = [])

/-- Words written out from R102 to R104 decode to the commands they stand for (95 V1). -/
def Obligations.WrittenOutWordsDecode : Prop :=
  decode 0b0001000000000000#16 = .command .poll ∧
  decode 0b0001000100000000#16 = .command .pollE ∧
  decode 0b0010000000000000#16 = .command .edgeNone ∧
  decode 0b0010000000010101#16 = .command (.edge .five) ∧
  decode 0b0010000000011110#16 = .command (.edge .star) ∧
  decode 0b0011000000000001#16 = .command (.writeArray 0x01#8) ∧
  decode 0b0011000010100101#16 = .command (.writeArray 0xA5#8) ∧
  decode 0b0010000000000001#16 = .reserved 0x2001#16 ∧
  decode 0b0100000000000000#16 = .reserved 0x4000#16

/-- R106 and R108: the key codes and that they are a bijection, `enc` and `dec` of an `Option Key`, that `dec` inverts
`enc`, that `{0, kc}` with `kc` not 0 is no encoding, and that the `EDGE` operand, the two pairs of `RESULT` and
`{PV, PK}` of `EDGE_PREV` are all this form. -/
def Obligations.OptionKeyEncodingInverts : Prop :=
  [Key.zero, .one, .two, .three, .four, .five, .six, .seven, .eight, .nine, .a, .b, .c, .d, .star, .hash].map keyCode =
    [0x0, 0x1, 0x2, 0x3, 0x4, 0x5, 0x6, 0x7, 0x8, 0x9, 0xA, 0xB, 0xC, 0xD, 0xE, 0xF] ∧
  (∀ k : Key, keyOf (keyCode k) = k) ∧ (∀ kc : Nibble, keyCode (keyOf kc) = kc) ∧
  encKey none = 0b00000#5 ∧ (∀ k : Key, encKey (some k) = 1#1 ++ keyCode k) ∧
  decKey 0#1 0#4 = some none ∧ (∀ kc : Nibble, decKey 1#1 kc = some (some (keyOf kc))) ∧
  (∀ kc : Nibble, kc ≠ 0#4 → decKey 0#1 kc = none) ∧
  (∀ x : Option Key, decKey ((encKey x).extractLsb' 4 1) ((encKey x).extractLsb' 0 4) = some x) ∧
  (∀ x : Option Key, (encode (.edgeOf x)).extractLsb' 0 5 = encKey x) ∧
  (∀ key fire : Option Key,
    (resultWord key fire).extractLsb' 0 5 = encKey key ∧ (resultWord key fire).extractLsb' 8 5 = encKey fire) ∧
  ∀ s : State, BitVec.ofBool (edgeValid s) ++ edgeCode s = encKey s.edgePrev

/-- R107: every field of a result word, the reserved bits among them. -/
def Obligations.ResultWordFields : Prop :=
  ∀ key fire : Option Key,
    keyValid (resultWord key fire) = key.isSome ∧
    keyCodeField (resultWord key fire) = (key.map keyCode).getD 0#4 ∧
    fireValid (resultWord key fire) = fire.isSome ∧
    fireCodeField (resultWord key fire) = (fire.map keyCode).getD 0#4 ∧
    (resultWord key fire).extractLsb' 5 3 = 0#3 ∧ (resultWord key fire).extractLsb' 13 3 = 0#3

/-- R111: the words of the pseudo-instructions. -/
def Obligations.PseudoInstructionWords : Prop :=
  assemble .edgeClr = 0x2000#16 ∧ assemble .edgeClr = assemble .edgeNone ∧
  assemble .outClr = 0x3000#16 ∧ assemble .outClr = assemble (.writeBits (Vector.replicate imgWidth false)) ∧
  assemble .outSet = 0x30FF#16 ∧ assemble .outSet = assemble (.writeBits (Vector.replicate imgWidth true))

/-- R110: the array form of `WRITE_ARRAY` gives the word whose image has the listed element `i` at bit `i`. -/
def Obligations.ArrayLiteralGivesElements : Prop :=
  ∀ bits : Vector Bool imgWidth, ∃ b : Image,
    decode (assemble (.writeBits bits)) = .command (.writeArray b) ∧
    ∀ i : Fin imgWidth, imageElement b i = bits[i]

/-- R153 (general knowledge by the spec's own mark, log entries 3 and 19): the default key map, position by position,
and it is injective. -/
def Obligations.DefaultKeyMap : Prop :=
  State.reset.params.romInjective = true ∧
  scanOrder.map (fun r => scanOrder.map (fun k => keyAt State.reset.params (r, k))) =
    [[.one, .two, .three, .a], [.four, .five, .six, .b], [.seven, .eight, .nine, .c], [.star, .zero, .hash, .d]]

/-! The scanner. -/

/-- R144 and R145: the scan visits the rows in order and stops at the first with an active column, recording its lowest
active column, the one whose bit of the sample is 1 with every bit below it 0; no later row is driven or sampled, and it
finds nothing when no column is active. The rows settle as long as R142 asks. -/
def Obligations.ScanFindsFirstActivePosition : Prop :=
  ∀ s : State, Settles s →
    (scan s).1 = found s ∧ (scan s).2.trace = s.trace ++ pollEvents s ∧
    (∀ (r : Fin nRows) (c : Fin nCols), (scan s).1 = some (r, c) →
      (rowSample s r).getLsbD c.val = true ∧ (∀ j : Fin nCols, j < c → (rowSample s r).getLsbD j.val = false) ∧
      ∀ j : Fin nRows, j < r → rowSample s j = 0#4) ∧
    ((scan s).1 = none ↔ ∀ r : Fin nRows, rowSample s r = 0#4)

/-- R32: in every tick with `rst = 0` each column's second flip-flop takes what its first one held; a sample is what the
second flip-flop held; so a row that settles as R142 asks is sampled as the keypad answers that row. The clause on `IDEAL`
is the model's choice (log entries 15 and 16; R160 speaks of the sample alone, and X18 leaves the stages at any value):
in every such tick the first flip-flop takes the column line that R160's graph gives for the rows driven and the switches,
as they are in that tick, or, where the tick captures a row's answer, as that row's sample will find them (general
knowledge by the spec's own mark, log entry 14). Under `ANY` the lines carry any value
(log entry 15). -/
def Obligations.ColumnsPassTheSynchroniser : Prop :=
  (∀ (s t : State) (pins : Pins), pins.rst = false → tick pins s = .goes t →
    t.colSync[1] = s.colSync[0] ∧
    (s.params.keypadEnv = .ideal →
      (¬ captures s → ∃ draw : Nibble, t.colSync[0] = idealSample t.switches s.rowOut draw) ∧
      (captures s → ∃ draw : Nibble, t.colSync[0] = idealSample (upcoming s 0).switches s.rowOut draw))) ∧
  (∀ (s : State) (q : Sequencer), s.seq = some q → q.phase = .sample →
    (runTick s).trace = s.trace ++ [.sample s.colSync[1]]) ∧
  ∀ (s : State) (r : Fin nRows), Settles s →
    (afterSample (visitRow r s)).trace = s.trace ++ [.driveRows (onehot4 r), .hold s.params.settleTicks,
      .sample (sampleOf s.params.keypadEnv (onehot4 r) (upcoming s 0))]

/-- R38 and R162: the keypad's switches may change at any tick, and each sample reads them as they are at that sample. In
every tick they are a free value, but in a sample's own, in which they are the ones the keypad agent presents for it (how
the model lets them change: log entry 16); under `IDEAL` the sample of a row that settles as R142 asks is R160's for the switches as they are in its tick (log entry
14). -/
def Obligations.SwitchesChangeFreelyAndSamplesReadThem : Prop :=
  (∀ (s t : State) (pins : Pins), tick pins s = .goes t →
    t.switches = Config.freeSwitches s.clocks ∨
    (pins.rst = false ∧ t.switches = (upcoming s 0).switches ∧ ∃ q, s.seq = some q ∧ q.phase = .sample)) ∧
  ∀ (s : State) (r : Fin nRows), Settles s → s.params.keypadEnv = .ideal →
    ∃ draw : Nibble, (afterSample (visitRow r s)).trace = s.trace ++ [.driveRows (onehot4 r),
      .hold s.params.settleTicks, .sample (idealSample (afterSample (visitRow r s)).switches (onehot4 r) draw)]

/-- R150: `POLL`, the word `0x1000`, completes from every state: `RESULT` is the key found with `KEY_VALID` and no fire,
the rows end low, `EDGE_PREV` and the driver's lines are not written, and there is one response. The key is the one
the samples give when the rows settle as R142 asks. -/
def Obligations.PollReportsTheRawKey : Prop :=
  encode .poll = 0x1000#16 ∧
  ∀ s : State, ∃ t, exec .poll s = .next t ∧
    (Settles s → t.result = resultWord (foundKey s) none ∧ keyValid t.result = (foundKey s).isSome) ∧
    fireValid t.result = false ∧ t.rowOut = 0b0000#4 ∧
    t.edgePrev = s.edgePrev ∧ t.data = s.data ∧ t.clk = s.clk ∧ t.latch = s.latch ∧
    t.responses = s.responses ++ [t.result]

/-- R151: `POLL.E`, the word `0x1100`, completes from every state: `EDGE_PREV` becomes the key found, `RESULT` shows it
and the key fired, with `FIRE_VALID` exactly when the detector fires, the rows end low, the driver's lines are not
written, and there is one response. The key is the one the samples give when the rows settle as R142 asks. -/
def Obligations.PollEReportsTheKeyAndTheFire : Prop :=
  encode .pollE = 0x1100#16 ∧
  ∀ s : State, ∃ t, exec .pollE s = .next t ∧
    (Settles s →
      t.result = resultWord (foundKey s) (fired s.edgePrev (foundKey s)) ∧ t.edgePrev = foundKey s ∧
      keyValid t.result = (foundKey s).isSome ∧ fireValid t.result = (fired s.edgePrev (foundKey s)).isSome) ∧
    t.rowOut = 0b0000#4 ∧ t.data = s.data ∧ t.clk = s.clk ∧ t.latch = s.latch ∧
    t.responses = s.responses ++ [t.result]

/-- The frame of `POLL`, from every state in which a row settles as R142 asks: the result of the key found, the rows
low, the trace of R152, and every other field as it was, but for the synchroniser and the keypad's switches (any value,
X18, R162) and the model's own tick counter. What the keypad agent's list and its counter are left at is the model's
choice (log entry 5). -/
def Obligations.PollResultAndFrame : Prop :=
  ∀ s : State, Settles s → ∃ sync P n, exec .poll s =
    .next { responded (resultWord (foundKey s) none) (scanned s) with colSync := sync, switches := P, clocks := n }

/-- The frame of `POLL.E`, from every state in which a row settles as R142 asks: as `POLL`, and the edge detector run on
the key found (log entry 5 for the keypad agent's list and its counter). -/
def Obligations.PollEResultAndFrame : Prop :=
  ∀ s : State, Settles s → ∃ sync P n, exec .pollE s =
    .next { responded (resultWord (foundKey s) (fired s.edgePrev (foundKey s))) (scanned s) with
      edgePrev := foundKey s, colSync := sync, switches := P, clocks := n }

/-- R152 (derived there from R149): how many events a poll puts on the lines: between 1 and 4 samples, `r + 2` row
drives when it ends at row `r` and 5 when it finds nothing, zero samples before row `r`, and no drive of `DATA`, `CLK`
or `LATCH`. -/
def Obligations.PollTraceShape : Prop :=
  ∀ (s : State) (i : Instr), i = .poll ∨ i = .pollE → Settles s →
    ∃ t l, exec i s = .next t ∧ t.trace = s.trace ++ l ++ [.respond t.result] ∧
      (∀ e ∈ l, ∀ line v, e ≠ .drive line v) ∧
      (∀ pos, found s = some pos →
        (l.filter (fun e => match e with | .driveRows _ => true | _ => false)).length = pos.1.val + 2 ∧
        (l.filterMap (fun e => match e with | .sample v => some v | _ => none)).length = pos.1.val + 1 ∧
        ∀ j : Fin nRows, j < pos.1 → rowSample s j = 0#4) ∧
      (found s = none →
        (l.filter (fun e => match e with | .driveRows _ => true | _ => false)).length = 5 ∧
        l.filterMap (fun e => match e with | .sample v => some v | _ => none) = List.replicate 4 0#4)

/-- R148, its part on one poll: a poll's result depends on the samples alone: two states with the same key-code ROM
whose rows are sampled alike get the same result, whatever any register, the edge detector, the other parameters or any
earlier poll has left. The rows settle as R142 asks. -/
def Obligations.PollDependsOnSamplesOnly : Prop :=
  ∀ s s' : State, Settles s → Settles s' → s.params.keyRom = s'.params.keyRom →
    (∀ r : Fin nRows, rowSample s r = rowSample s' r) →
    ∃ t t' u u', exec .poll s = .next t ∧ exec .poll s' = .next t' ∧ t.result = t'.result ∧
      exec .pollE s = .next u ∧ exec .pollE s' = .next u' ∧
      u.result.extractLsb' 0 8 = u'.result.extractLsb' 0 8 ∧ u.result.extractLsb' 0 8 = t.result.extractLsb' 0 8

/-- R154 (derived there from R144, R145, R146 and R72): under any bijective key map, what `POLL` reports when one
position is active, when none is, and when two positions in different rows are. The rows settle as R142 asks. -/
def Obligations.PollReportsTheActivePosition : Prop :=
  ∀ s : State, Settles s → s.params.romInjective = true → ∃ t, exec .poll s = .next t ∧
    (∀ (r : Fin nRows) (k : Fin nCols), rowSample s r = onehot4 k → (∀ j, j ≠ r → rowSample s j = 0#4) →
      t.result = resultWord (some (keyOf (romRead s.params (BitVec.ofNat 4 (4 * r.val + k.val))))) none) ∧
    (∀ p p' : Position, keyAt s.params p = keyAt s.params p' → p = p') ∧
    ((∀ j, rowSample s j = 0#4) → t.result = resultWord none none) ∧
    (∀ (r r' : Fin nRows) (k k' : Fin nCols), r < r' → rowSample s r = onehot4 k → rowSample s r' = onehot4 k' →
      (∀ j, j ≠ r → j ≠ r' → rowSample s j = 0#4) → t.result = resultWord (some (keyAt s.params (r, k))) none)

/-- R160 (general knowledge by the spec's own mark, log entry 14): `rows(c)` is the connected component of column `c`,
and a column reads by R160's table. -/
def Obligations.IdealSampleFollowsTheGraph : Prop :=
  (∀ (P : Switches) (k : Fin nCols) (r : Fin nRows), (rowsConnected P k).getLsbD r.val = true ↔ Joined P k r) ∧
  ∀ (P : Switches) (k : Fin nCols) (a : Fin nRows) (draw : Nibble),
    ((∀ r, ¬ Joined P k r) → (idealSample P (onehot4 a) draw).getLsbD k.val = false) ∧
    ((∀ r, Joined P k r ↔ r = a) → (idealSample P (onehot4 a) draw).getLsbD k.val = true) ∧
    (¬ Joined P k a → (idealSample P (onehot4 a) draw).getLsbD k.val = false) ∧
    (Joined P k a → (∃ r, r ≠ a ∧ Joined P k r) →
      (idealSample P (onehot4 a) draw).getLsbD k.val = draw.getLsbD k.val) ∧
    idealSample P 0#4 draw = 0#4

/-- R161 (derived there from R160, log entry 14): under `IDEAL`, with no two closed switches in one column, a row's
sample is its switches, and a poll during which the switches do not change reports the lowest row's lowest closed
switch. -/
def Obligations.IdealPollReportsLowestClosedSwitch : Prop :=
  ∀ P : Switches,
    (∀ (k : Fin nCols) (r r' : Fin nRows), P[r].getLsbD k.val = true → P[r'].getLsbD k.val = true → r = r') →
    (∀ (a : Fin nRows) (draw : Nibble), idealSample P (onehot4 a) draw = P[a]) ∧
    ∀ s : State, Settles s → s.params.keypadEnv = .ideal → (∀ j : Fin nRows, (upcoming s j.val).switches = P) →
      ∃ t, exec .poll s = .next t ∧ t.result = resultWord ((lowestClosed P).map (keyAt s.params)) none

/-! The edge detector. -/

/-- R181: the edge function's five cases. -/
def Obligations.EdgeFunctionCases : Prop :=
  edge none none = (none, none) ∧
  (∀ k : Key, edge none (some k) = (some k, some k)) ∧
  (∀ k : Key, edge (some k) (some k) = (none, some k)) ∧
  (∀ j k : Key, j ≠ k → edge (some j) (some k) = (some k, some k)) ∧
  (∀ j : Key, edge (some j) none = (none, none)) ∧
  ∀ prev x : Option Key, edge prev x = (fired prev x, x)

/-- R182: `EDGE x`, the words `0x2000` and `0x2010 | KEY_CODE(k)`, completes from every state in both its forms. `EDGE
NONE` fires nothing and clears `EDGE_PREV`; `EDGE k` fires `k` unless `EDGE_PREV` held it; neither changes anything but
`EDGE_PREV` and the result (their frame), beside the synchroniser, which the acceptance and response ticks clock, and the
keypad's switches, which may change in them (any value, X18, R162; how the model lets them: log entries 15 and 16), and
the model's own tick counter. A word with `V = 0` and `KC` not 0 is reserved. -/
def Obligations.EdgeResultAndFrame : Prop :=
  encode .edgeNone = 0x2000#16 ∧ (∀ k : Key, encode (.edge k) = 0x2010#16 ||| (keyCode k).setWidth 16) ∧
  (∀ kc : Nibble, kc ≠ 0#4 → reservedWord (0x2000#16 ||| kc.setWidth 16) = true) ∧
  (∀ s : State, ∃ sync P n, exec .edgeNone s =
    .next { responded 0x0000#16 s with edgePrev := none, colSync := sync, switches := P, clocks := n }) ∧
  ∀ (s : State) (k : Key), ∃ sync P n, exec (.edge k) s =
    .next { responded (if s.edgePrev = some k then 0x0000#16 else resultWord none (some k)) s with
      edgePrev := some k, colSync := sync, switches := P, clocks := n }

/-- R183 (derived there from R150, R151 and R182): `POLL.E` leaves what `POLL` and then `EDGE` of the key found would
leave, its result joins theirs, and it gives one response. The rows settle as R142 asks. (The keypad's switches may
change in any tick, R162, so nothing is said of them.) -/
def Obligations.PollEEqualsPollThenEdge : Prop :=
  ∀ s : State, Settles s → ∃ t u v, exec .pollE s = .next t ∧ exec .poll s = .next u ∧
    exec (.edgeOf (foundKey s)) u = .next v ∧
    t.rowOut = v.rowOut ∧ t.edgePrev = v.edgePrev ∧ t.data = v.data ∧ t.clk = v.clk ∧ t.latch = v.latch ∧
    t.chain = v.chain ∧ t.q = v.q ∧ t.keypad = v.keypad ∧ t.draws = v.draws ∧
    t.trace.filter isLineEvent = v.trace.filter isLineEvent ∧
    t.result.extractLsb' 0 8 = u.result.extractLsb' 0 8 ∧ t.result.extractLsb' 8 8 = v.result.extractLsb' 8 8 ∧
    t.responses.length + 1 = v.responses.length

/-- R185 (derived there from R181): over a run of `EDGE` commands, each fires exactly when its input is a key that is
not the input before it. -/
def Obligations.OneFirePerPress : Prop :=
  ∀ (xs : List (Option Key)) (s : State), ∃ t, runEdges xs s = .next t ∧
    t.responses = s.responses ++ (fires s.edgePrev xs).map (resultWord none) ∧
    t.edgePrev = xs.getLastD s.edgePrev

/-- R186 (derived there from R181): the source's scenario, from every state with `EDGE_PREV = None`. -/
def Obligations.SourceScenarioFires : Prop :=
  ∀ s : State, s.edgePrev = none →
    ∃ t, runEdges [some .zero, some .zero, none, some .one] s = .next t ∧
      t.responses = s.responses ++ [resultWord none (some .zero), 0x0000#16, 0x0000#16, resultWord none (some .one)] ∧
      t.edgePrev = some .one

/-- R184: no step changes `EDGE_PREV` but one that activates the edge detector or resets the block, a reset leaves
`None`, a `POLL`, a `WRITE_ARRAY` and a refused word leave it, and the key a poll reports does not depend on it. -/
def Obligations.OnlyActivationOrResetChangesEdgePrev : Prop :=
  (∀ s t : State, step s = .next t →
    (¬ activates s → ¬ resets s → t.edgePrev = s.edgePrev) ∧ (resets s → t.edgePrev = none)) ∧
  (∀ (s : State) (b : Image), ∃ t u, exec .poll s = .next t ∧ exec (.writeArray b) s = .next u ∧
    t.edgePrev = s.edgePrev ∧ u.edgePrev = s.edgePrev) ∧
  (∀ (s : State) (w : Word) (rest : List HostMove), s.seq = none → s.host = .command w :: rest →
    reservedWord w = true → ∀ t, step s ≠ .next t) ∧
  ∀ (s : State) (x : Option Key), ∃ t t' u u', exec .poll s = .next t ∧
    exec .poll { s with edgePrev := x } = .next t' ∧ t.result = t'.result ∧ exec .pollE s = .next u ∧
    exec .pollE { s with edgePrev := x } = .next u' ∧ u.result.extractLsb' 0 8 = u'.result.extractLsb' 0 8

/-! The shift-register driver. -/

/-- R204, R206, R208 (log entry 19 for R212 and R213, log entry 8 where the register does not follow them): `WRITE_ARRAY
B` completes from every state whose clock and latch lines are low (R276), and what it leaves: `DATA` at the last element,
the clock and latch low, `CHAIN = Q = outmap(B)`, `Q` known from here on (R272), the trace of R205, the result 0, and
every other field as it was (its frame), but for the synchroniser and the keypad's switches (any value, X18, R162; how the
model lets them change: log entries 15 and 16) and the model's own tick counter. -/
def Obligations.WriteArrayResultAndFrame : Prop :=
  ∀ (s : State) (b : Image), s.clk = false → s.latch = false →
    ∃ sync P n, exec (.writeArray b) s =
      .next (responded 0x0000#16
        { s with
          data := imageElement b (lastElement s.params.shiftOrder)
          clk := false
          latch := false
          colSync := sync
          chain := loaded s.params b
          latched := loaded s.params b
          written := true
          switches := P
          clocks := n
          trace := s.trace ++ writeEvents s.params b })

/-- R206: where the data line is left, under each shift order. -/
def Obligations.DataLineAfterWrite : Prop :=
  ∀ (s : State) (b : Image), ∃ t, exec (.writeArray b) s = .next t ∧
    (s.params.shiftOrder = .desc → t.data = b.getLsbD 0) ∧ (s.params.shiftOrder = .asc → t.data = b.getLsbD 7) ∧
    t.clk = false ∧ t.latch = false

/-- R201 and R202: the events of `WRITE_ARRAY` in order: for each element in shift order, set the data line and pulse
the clock, then pulse the latch, a hold after each drive, then the response; no other event. -/
def Obligations.WriteLineTrace : Prop :=
  ∀ (s : State) (b : Image), ∃ t, exec (.writeArray b) s = .next t ∧
    t.trace = s.trace ++ writeEvents s.params b ++ [.respond 0x0000#16] ∧
    (s.params.shiftOrder = .desc → shiftOrder s.params.shiftOrder = [7, 6, 5, 4, 3, 2, 1, 0]) ∧
    (s.params.shiftOrder = .asc → shiftOrder s.params.shiftOrder = [0, 1, 2, 3, 4, 5, 6, 7])

/-- R205 (derived there from R200 to R204): how many events a write puts on the lines: 26 drives, 26 holds, 8 rises and
8 falls of the clock, one rise and one fall of the latch, one response, and none on the rows. -/
def Obligations.WriteTraceCounts : Prop :=
  ∀ (s : State) (b : Image), ∃ t l, exec (.writeArray b) s = .next t ∧ t.trace = s.trace ++ l ∧
    (l.filter (fun e => match e with | .drive _ _ => true | _ => false)).length = 26 ∧
    (l.filter (fun e => match e with | .hold n => n == s.params.holdTicks | _ => false)).length = 26 ∧
    l.count (.drive .clk true) = 8 ∧ l.count (.drive .clk false) = 8 ∧
    l.count (.drive .latch true) = 1 ∧ l.count (.drive .latch false) = 1 ∧
    l.getLast? = some (.respond 0x0000#16) ∧ l.length = 53

/-- R208 (derived there; log entry 19 for R212 and R213): after a whole write by a register that follows R212 and R213,
output pin `k` shows element `k` under `DESC` and element `7 - k` under `ASC`, and `CHAIN = Q`. -/
def Obligations.OutputsEqualTheImage : Prop :=
  ∀ (s : State) (b : Image), s.clk = false → s.latch = false → s.params.registerFollows = true →
    ∃ t, exec (.writeArray b) s = .next t ∧ t.chain = t.q ∧
      (s.params.shiftOrder = .desc → ∀ k : Fin imgWidth, t.q[k] = some (b.getLsbD k.val)) ∧
      (s.params.shiftOrder = .asc → ∀ k : Fin imgWidth, t.q[k] = some (b.getLsbD (7 - k.val)))

/-- R210 (derived there from R208 and R209): a second identical write leaves `Q` as the first left it, and still puts
its full trace on the lines. -/
def Obligations.SecondIdenticalWriteChangesNoOutput : Prop :=
  ∀ (s : State) (b : Image), s.clk = false → s.latch = false → s.params.registerFollows = true →
    ∃ t u, exec (.writeArray b) s = .next t ∧ exec (.writeArray b) t = .next u ∧ u.q = t.q ∧
      u.trace = t.trace ++ writeEvents s.params b ++ [.respond 0x0000#16]

/-- R211 (derived there from R212, log entry 19): eight shifts replace all of `CHAIN`, whatever it held, known, unknown
or partly shifted. -/
def Obligations.OldChainIsOverwritten : Prop :=
  ∀ (s : State) (b : Image) (old : Stages), s.clk = false → s.params.registerFollows = true →
    (shiftBits b (shiftOrder s.params.shiftOrder) { s with chain := old }).chain =
      Stages.ofByte (outmap s.params.shiftOrder b)

/-- R209 (derived there; the ticks are R285's, log entries 11 and 19): during and after a `WRITE_ARRAY`, tick by tick, `Q`
keeps its value up to the latch's active edge and is `outmap(B)` from then on; in the first write after power-up it is
unknown up to the response (R272, X13). -/
def Obligations.OutputsChangeOnceAtTheLatch : Prop :=
  ∀ (s : State) (b : Image) (n : Nat), Idle s → s.params.wf = true → s.params.registerFollows = true →
    (writing b n s).q =
      if n < shownTick s then s.q else Stages.ofByte (outmap s.params.shiftOrder b)

/-- R272 (log entry 25 for a write that a reset cuts): `Q` is unknown from power-up on, no step but one in which a
`WRITE_ARRAY` completes, or a reset that cuts one at or after `Drive(LATCH, 1)` (R271), makes it known, and once known it
is not held unknown for want of a write again. -/
def Obligations.OutputsUnknownUntilAWriteCompletes : Prop :=
  State.reset.written = false ∧ (∀ s : State, s.written = false → s.q = Stages.unknown) ∧
  ∀ s t : State, step s = .next t →
    (s.written = true → t.written = true) ∧
    (s.written = false → t.written = true →
      (∃ b u, fetch s = .run (.writeArray b) u) ∨
      (∃ q b, s.seq = some q ∧ q.cmd = .writeArray b ∧ q.phase = .respond) ∨
      (resets s ∧ latchDriven s = true))

/-- R207 with X15 and X16 (log entry 8: "not constrained" is held as unknown): `WRITE_ARRAY` has no error outcome and
always responds, whatever the register does; and where the external register does not follow R212 and R213, its
contents after the write are not known. -/
def Obligations.WriteNeverFailsAndFaultyOutputsAreUnknown : Prop :=
  ∀ (s : State) (b : Image), ∃ t, exec (.writeArray b) s = .next t ∧ t.result = 0x0000#16 ∧
    t.responses = s.responses ++ [0x0000#16] ∧
    (s.params.registerFollows = false → t.q = Stages.unknown ∧ t.chain = Stages.unknown)

/-! The two units do not touch each other (R6, R79, R184). -/

/-- The frame of `POLL`, `POLL.E` and `EDGE`: the driver's lines, the external register, the host's moves and the
parameters stay as they were, and the trace so far is kept. The synchroniser is clocked on (R32) and the keypad's switches
may change (R162), so nothing is said of them. -/
def Obligations.ScannerCommandsLeaveTheDriver : Prop :=
  ∀ (s : State) (i : Instr), (∀ b, i ≠ .writeArray b) →
    ∃ t, exec i s = .next t ∧ t.data = s.data ∧ t.clk = s.clk ∧ t.latch = s.latch ∧ t.chain = s.chain ∧ t.q = s.q ∧
      t.latched = s.latched ∧ t.written = s.written ∧ t.host = s.host ∧ t.params = s.params ∧ s.trace <+: t.trace ∧
      (i = .poll → t.edgePrev = s.edgePrev) ∧
      (∀ x, i = .edgeOf x → t.rowOut = s.rowOut ∧ t.keypad = s.keypad ∧ t.draws = s.draws)

/-- The frame of `WRITE_ARRAY`: the rows, the edge detector, the keypad agent, the host's moves and the parameters stay
as they were, and the trace so far is kept. The synchroniser is clocked on (R32) and the keypad's switches may change
(R162), so nothing is said of them. -/
def Obligations.WriteArrayLeavesTheScanner : Prop :=
  ∀ (s : State) (b : Image), ∃ t, exec (.writeArray b) s = .next t ∧ t.rowOut = s.rowOut ∧ t.edgePrev = s.edgePrev ∧
    t.keypad = s.keypad ∧ t.draws = s.draws ∧ t.host = s.host ∧
    t.params = s.params ∧ s.trace <+: t.trace

/-! The command port. -/

/-- R5, R45: with no command in flight, the step that takes the host's command word runs the decoded command. -/
def Obligations.StepRunsTheDecodedCommand : Prop :=
  ∀ (s : State) (w : Word) (rest : List HostMove) (i : Instr),
    s.seq = none → s.host = .command w :: rest → decode w = .command i → step s = exec i { s with host := rest }

/-- Log entry 22, the model's own way to place a word: a word placed with `withFetchWord` is the one the next step
runs, whatever else the state holds. -/
def Obligations.PlacedWordRunsNext : Prop :=
  ∀ (s : State) (i : Instr), step (s.withFetchWord 16 (encode i).toNat) = exec i { s with seq := none } ∧
    decodeTableWord 16 (encode i).toNat = some i

/-- R45, its part on a busy block: while a command is in flight the host's command word waits: the step is one tick of
the running command, and the host still holds the word. -/
def Obligations.BusyBlockMakesTheHostWait : Prop :=
  ∀ (s : State) (w : Word) (rest : List HostMove) (q : Sequencer),
    s.seq = some q → s.host = .command w :: rest → step s = .next (runTick s) ∧ (runTick s).host = s.host

/-- R45 and R47, on one tick with `rst = 0`: a busy block goes on whatever its input ports carry; an idle block given a
legal word accepts it, latching the command and setting `BUSY`, and changes nothing else (beside the pulse, the
synchroniser, the keypad's switches, which may change in any tick (R162; how the model lets them: log entries 15 and 16),
and the model's own tick counter); an idle block given nothing stays as it is (beside the same four). A step whose move is
a tick with some levels on the input ports is that tick. -/
def Obligations.TickGoesOnOrAccepts : Prop :=
  (∀ (s : State) (pins : Pins), pins.rst = false →
    (s.busy = true → tick pins s = .goes (runTick s)) ∧
    (s.busy = false → pins.cmdValid = true → ∀ i, decode pins.cmdWord = .command i →
      tick pins s = .goes (accept i s) ∧ (accept i s).busy = true) ∧
    (s.busy = false → pins.cmdValid = false → ∃ sync P n, tick pins s =
      .goes { s with rspValid := false, colSync := sync, switches := P, clocks := n })) ∧
  (∀ (s : State) (i : Instr), ∃ q sync P n, q.cmd = i ∧
    accept i s = { s with rspValid := false, seq := some q, colSync := sync, switches := P, clocks := n }) ∧
  ∀ (s : State) (pins : Pins) (rest : List HostMove), s.host = .clock pins :: rest →
    ∀ t, tick pins { s with host := rest } = .goes t → step s = .next t

/-- R241, its part on the model: the step that accepts a reserved word is the refusal `ReservedCommand(word)`, at
either level. -/
def Obligations.ReservedWordIsRefused : Prop :=
  ∀ (s : State) (w : Word) (rest : List HostMove), s.seq = none → reservedWord w = true →
    (s.host = .command w :: rest → step s = .refused (.reservedCommand w)) ∧
    (s.host = .clock { rst := false, cmdValid := true, cmdWord := w } :: rest →
      step s = .refused (.reservedCommand w))

/-- R240: every legal command completes and responds, from every state, with exactly one response; and no step faults
while the platform is there. -/
def Obligations.EveryCommandCompletesAndResponds : Prop :=
  (∀ (s : State) (i : Instr), ∃ t, exec i s = .next t ∧ t.responses = s.responses ++ [t.result] ∧
    t.rspValid = true ∧ t.seq = none) ∧
  ∀ s : State, (∀ rest, s.host ≠ .platformLoss :: rest) → ∀ r : Fault, step s ≠ .fault r

/-- R41, R49: the host's commands run one after the other, one response each, and the run ends with no command in
flight. -/
def Obligations.CommandListRunsToItsEnd : Prop :=
  ∀ (words : List Word) (s : State), s.seq = none → (∀ w ∈ words, reservedWord w = false) →
    ∃ t, Host.Core.run core words.length (s.withProgram words) = .next t ∧
      runEnded s.responses.length words.length t ∧ t.host = [] ∧
      s.responses <+: t.observe.responses

/-- R46, as log entry 10 reads the ports within a tick: in a tick, `rsp_valid` is 1 exactly when it is the response
tick of a command; in it `rsp_word` shows the new result and `cmd_ready` is 0; in the tick after it `cmd_ready` is 1
again. -/
def Obligations.ResponseTick : Prop :=
  ∀ (s t : State) (pins : Pins), tick pins s = .goes t →
    ((outputs pins s t).rspValid = true ↔ pins.rst = false ∧ ∃ q, s.seq = some q ∧ q.phase = .respond) ∧
    (outputs pins s t).rspWord = t.result ∧
    ((outputs pins s t).rspValid = true →
      t.responses = s.responses ++ [t.result] ∧ t.busy = false ∧ (outputs pins s t).cmdReady = false ∧
      ∀ pins' : Pins, pins'.rst = false → cmdReady pins' t = true) ∧
    ((outputs pins s t).rspValid = false → pins.rst = false → t.result = s.result ∧ t.responses = s.responses)

/-- The two levels of R5 agree, with the tick counts of R285 (log entries 10 and 11 for what a tick is): from an idle
block, the ticks of a command lead to the state its transaction gives, the block is busy up to then, and no earlier
tick responds. -/
def Obligations.TicksRefineTheTransaction : Prop :=
  ∀ (s : State) (i : Instr), s.seq = none → s.params.wf = true →
    exec i s = .next (runTicks (tickCount s.params ((found s).map Prod.fst) i) (accept i s)) ∧
    ∀ n, n < tickCount s.params ((found s).map Prod.fst) i →
      (runTicks n (accept i s)).seq ≠ none ∧ (runTicks n (accept i s)).responses = s.responses

/-! Reset. -/

/-- R270 and 10_state.md section 5: what the state right after reset is, in the registers the spec states. -/
def Obligations.ResetStateRegisters : Prop :=
  State.reset.rowOut = 0b0000#4 ∧ State.reset.data = false ∧ State.reset.clk = false ∧ State.reset.latch = false ∧
  State.reset.result = 0x0000#16 ∧ State.reset.edgePrev = none ∧ State.reset.seq = none ∧
  State.reset.rspValid = false ∧ State.reset.chain = Stages.unknown ∧ State.reset.q = Stages.unknown

/-- R270: a tick with `rst = 1` gives every block register its reset value, from every state; it changes no parameter
and gives no response; `cmd_ready` and `rsp_valid` are 0 in it. R272, with R271 on a latch line forced low and on a cut
write (derived there; log entry 25): where the external register follows R212 and R213 the tick leaves `CHAIN`, and the
output latches but for a falling latch edge that is the active one; `Q` stays unknown before a first write unless the
tick cuts one at or after `Drive(LATCH, 1)`. -/
def Obligations.ResetTick : Prop :=
  ∀ (s : State) (pins : Pins), pins.rst = true → ∃ t, tick pins s = .goes t ∧ t = applyReset s ∧
    t.rowOut = 0b0000#4 ∧ t.data = false ∧ t.clk = false ∧ t.latch = false ∧ t.result = 0x0000#16 ∧
    t.edgePrev = none ∧ t.seq = none ∧ t.params = s.params ∧ t.responses = s.responses ∧
    (s.params.registerFollows = true → t.chain = s.chain ∧
      (s.written = true → t.q = if s.params.latchEdge = .falling ∧ s.latch = true then s.chain else s.q) ∧
      (latchDriven s = true → t.q = if s.params.latchEdge = .falling ∧ s.latch = true then s.chain else s.latched)) ∧
    (s.written = false → latchDriven s = false → t.q = Stages.unknown) ∧
    (outputs pins s t).cmdReady = false ∧ (outputs pins s t).rspValid = false

/-- R245: a reset and a command in one tick: reset wins, the command is not accepted, and the host's word is accepted
in the tick after reset ends. -/
def Obligations.ResetWinsOverACommand : Prop :=
  ∀ (s : State) (w : Word) (i : Instr), decode w = .command i →
    cmdReady { rst := true, cmdValid := true, cmdWord := w } s = false ∧
    ∃ t, tick { rst := true, cmdValid := true, cmdWord := w } s = .goes t ∧ t.seq = none ∧
      tick { rst := false, cmdValid := true, cmdWord := w } t = .goes (accept i t)

/-- R271 (derived there; log entries 11 and 19, and 25 for the first write after power-up), `WRITE_ARRAY`: reset at any
tick of a write gives no response, puts the lines low at once, leaves `CHAIN` with the elements shifted so far, and
leaves `Q` the old value before `Drive(LATCH, 1)` and `outmap(B)` from then on, for either latch edge. -/
def Obligations.ResetDuringWrite : Prop :=
  ∀ (s : State) (b : Image) (n : Nat), Idle s → s.params.wf = true → s.params.registerFollows = true →
    n < tickCount s.params none (.writeArray b) → ∀ pins : Pins, pins.rst = true →
    ∃ t, tick pins (writing b n s) = .goes t ∧ t.responses = s.responses ∧
      t.data = false ∧ t.clk = false ∧ t.latch = false ∧ t.seq = none ∧
      t.chain = shifted s.params b (risingEdges s.params n) s.chain ∧
      t.q = if n < latchTick s.params then s.q else Stages.ofByte (outmap s.params.shiftOrder b)

/-- R271 (derived there; log entry 11), `POLL` and `POLL.E`: reset at any tick before the response gives no response,
the rows low, `RESULT` and `EDGE_PREV` at their reset values whatever the poll had found, and leaves the external
register alone. -/
def Obligations.ResetDuringPoll : Prop :=
  ∀ (s : State) (i : Instr) (n : Nat), i = .poll ∨ i = .pollE → Idle s → s.params.wf = true →
    s.params.registerFollows = true → n < tickCount s.params ((found s).map Prod.fst) i → ∀ pins : Pins, pins.rst = true →
    ∃ t, tick pins (runTicks n (accept i s)) = .goes t ∧ t.responses = s.responses ∧ t.rowOut = 0b0000#4 ∧
      t.result = 0x0000#16 ∧ t.edgePrev = none ∧ t.seq = none ∧ t.chain = s.chain ∧ t.q = s.q

/-! Invariants and whole-machine rules. -/

/-- The invariant of Safety.lean holds right after reset. -/
def Obligations.ResetMeetsTheInvariant : Prop := Inv State.reset

/-- Every step keeps the invariant: rows low or one-hot as the running phase says (R30, R141, R147), the clock and the
latch as it says (R201, R202) and low between commands (R31, R276), phases that fit the command, a result word of R107,
well-formed parameters, and, `Inv.external`: a register that does not follow R212 and R213 (X15, X16) has unknown
contents. That last clause is the model's, log entry 8 (DEDUCED). -/
def Obligations.StepKeepsTheInvariant : Prop := ∀ s t : State, Inv s → step s = .next t → Inv t

/-- R141, R274, R78: no step ever drives two rows high, not even within a command, and a step only adds to the trace. -/
def Obligations.NoTwoRowsAreEverHigh : Prop :=
  ∀ s t : State, rowsLegal s.rowOut = true → step s = .next t →
    rowsLegal t.rowOut = true ∧
    ∃ l, t.trace = s.trace ++ l ∧ ∀ v, LineEvent.driveRows v ∈ l → rowsLegal v = true

/-- R147: the last line event of every poll is `DriveRows(0b0000)`, whether or not it finds a position, and between
commands every row is low. -/
def Obligations.RowsIdleAfterPoll : Prop :=
  (∀ (s : State) (i : Instr), i = .poll ∨ i = .pollE →
    ∃ t l, exec i s = .next t ∧ t.trace = s.trace ++ l ++ [.driveRows 0b0000#4, .respond t.result] ∧
      t.rowOut = 0b0000#4) ∧
  ∀ s t : State, Inv s → step s = .next t → t.seq = none → t.rowOut = 0b0000#4

/-- R37 (and R35): no step changes a parameter, the key-code ROM among them, or writes the host's program: the host's
moves are only used up. -/
def Obligations.ParametersAndProgramNeverChange : Prop :=
  ∀ s t : State, step s = .next t → t.params = s.params ∧ t.host <:+ s.host
end

