-- ==== Sys2Proof/Laws/Decode.lean ====
section
/-! SUPPORT. Small lemmas of the encodings (30_encoding.md R105 to R109) and of the operand forms. -/

namespace Sys2Proof.Laws

open Sys2Proof.Machine

@[simp] theorem keyOf_keyCode (k : Key) : keyOf (keyCode k) = k := by cases k <;> rfl

@[simp] theorem keyCode_keyOf (kc : Nibble) : keyCode (keyOf kc) = kc := by revert kc; decide

theorem keyCode_injective {j k : Key} (h : keyCode j = keyCode k) : j = k := by
  rw [← keyOf_keyCode j, h, keyOf_keyCode]

theorem encKey_injective {x y : Option Key} (h : encKey x = encKey y) : x = y := by
  revert h
  cases x with
  | none => cases y with
    | none => simp
    | some k => cases k <;> decide
  | some j => cases y with
    | none => cases j <;> decide
    | some k => cases j <;> cases k <;> decide

theorem ctz4_onehot4 (k : Fin nCols) : ctz4 (onehot4 k) = k := by revert k; decide

theorem onehot4_ne_zero (r : Fin nRows) : onehot4 r ≠ 0#4 := by revert r; decide

theorem rowsLegal_zero : rowsLegal 0#4 = true := by decide

theorem rowsLegal_onehot4 (r : Fin nRows) : rowsLegal (onehot4 r) = true := by revert r; decide

/-- R71: the concatenated address is `4*r + c`. -/
theorem romAddress_toNat (pos : Position) : (romAddress pos).toNat = 4 * pos.1.val + pos.2.val := by
  obtain ⟨r, k⟩ := pos
  revert r k; decide

theorem nextElement_last (o : ShiftOrder) : nextElement o (lastElement o) = none := by cases o <;> decide

theorem edge_eq (prev x : Option Key) : (edge prev x).2 = x := by
  cases x with
  | none => rfl
  | some k => simp only [edge]; split <;> rfl

theorem resultCanonical_resultWord (key fire : Option Key) : resultCanonical (resultWord key fire) := ⟨key, fire, rfl⟩

theorem resultWord_none : resultWord none none = 0#16 := by decide

end Sys2Proof.Laws
end

