-- ==== Sys2Proof/Laws/State.lean ====
section
/-! SUPPORT. One lemma for each field under each named update of State, so that no proof unfolds a record update: what
the update writes, and that every other field stays. True by rfl for one update, by induction for many ticks. -/

namespace Sys2Proof.Laws

open Sys2Proof.Machine

/-! State.logEvent -/

@[simp] theorem logEvent_rowOut (e : LineEvent) (s : State) : (State.logEvent e s).rowOut = s.rowOut := rfl
@[simp] theorem logEvent_data (e : LineEvent) (s : State) : (State.logEvent e s).data = s.data := rfl
@[simp] theorem logEvent_clk (e : LineEvent) (s : State) : (State.logEvent e s).clk = s.clk := rfl
@[simp] theorem logEvent_latch (e : LineEvent) (s : State) : (State.logEvent e s).latch = s.latch := rfl
@[simp] theorem logEvent_result (e : LineEvent) (s : State) : (State.logEvent e s).result = s.result := rfl
@[simp] theorem logEvent_edgePrev (e : LineEvent) (s : State) : (State.logEvent e s).edgePrev = s.edgePrev := rfl
@[simp] theorem logEvent_rspValid (e : LineEvent) (s : State) : (State.logEvent e s).rspValid = s.rspValid := rfl
@[simp] theorem logEvent_seq (e : LineEvent) (s : State) : (State.logEvent e s).seq = s.seq := rfl
@[simp] theorem logEvent_colSync (e : LineEvent) (s : State) : (State.logEvent e s).colSync = s.colSync := rfl
@[simp] theorem logEvent_chain (e : LineEvent) (s : State) : (State.logEvent e s).chain = s.chain := rfl
@[simp] theorem logEvent_latched (e : LineEvent) (s : State) : (State.logEvent e s).latched = s.latched := rfl
@[simp] theorem logEvent_written (e : LineEvent) (s : State) : (State.logEvent e s).written = s.written := rfl
@[simp] theorem logEvent_switches (e : LineEvent) (s : State) : (State.logEvent e s).switches = s.switches := rfl
@[simp] theorem logEvent_keypad (e : LineEvent) (s : State) : (State.logEvent e s).keypad = s.keypad := rfl
@[simp] theorem logEvent_draws (e : LineEvent) (s : State) : (State.logEvent e s).draws = s.draws := rfl
@[simp] theorem logEvent_clocks (e : LineEvent) (s : State) : (State.logEvent e s).clocks = s.clocks := rfl
@[simp] theorem logEvent_host (e : LineEvent) (s : State) : (State.logEvent e s).host = s.host := rfl
@[simp] theorem logEvent_responses (e : LineEvent) (s : State) : (State.logEvent e s).responses = s.responses := rfl
@[simp] theorem logEvent_trace (e : LineEvent) (s : State) : (State.logEvent e s).trace = s.trace ++ [e] := rfl
@[simp] theorem logEvent_params (e : LineEvent) (s : State) : (State.logEvent e s).params = s.params := rfl

/-! clockColumns -/

@[simp] theorem clockColumns_rowOut (P : Switches) (lines : Nibble) (s : State) : (clockColumns P lines s).rowOut = s.rowOut := rfl
@[simp] theorem clockColumns_data (P : Switches) (lines : Nibble) (s : State) : (clockColumns P lines s).data = s.data :=
  rfl
@[simp] theorem clockColumns_clk (P : Switches) (lines : Nibble) (s : State) : (clockColumns P lines s).clk = s.clk :=
  rfl
@[simp] theorem clockColumns_latch (P : Switches) (lines : Nibble) (s : State) : (clockColumns P lines s).latch = s.latch := rfl
@[simp] theorem clockColumns_result (P : Switches) (lines : Nibble) (s : State) : (clockColumns P lines s).result = s.result := rfl
@[simp] theorem clockColumns_edgePrev (P : Switches) (lines : Nibble) (s : State) : (clockColumns P lines s).edgePrev = s.edgePrev := rfl
@[simp] theorem clockColumns_rspValid (P : Switches) (lines : Nibble) (s : State) : (clockColumns P lines s).rspValid = s.rspValid := rfl
@[simp] theorem clockColumns_seq (P : Switches) (lines : Nibble) (s : State) : (clockColumns P lines s).seq = s.seq :=
  rfl
@[simp] theorem clockColumns_colSync (P : Switches) (lines : Nibble) (s : State) : (clockColumns P lines s).colSync = #v[lines, s.colSync[0]] := rfl
@[simp] theorem clockColumns_chain (P : Switches) (lines : Nibble) (s : State) : (clockColumns P lines s).chain = s.chain := rfl
@[simp] theorem clockColumns_latched (P : Switches) (lines : Nibble) (s : State) : (clockColumns P lines s).latched = s.latched := rfl
@[simp] theorem clockColumns_written (P : Switches) (lines : Nibble) (s : State) : (clockColumns P lines s).written = s.written := rfl
@[simp] theorem clockColumns_switches (P : Switches) (lines : Nibble) (s : State) : (clockColumns P lines s).switches = P := rfl
@[simp] theorem clockColumns_keypad (P : Switches) (lines : Nibble) (s : State) : (clockColumns P lines s).keypad = s.keypad := rfl
@[simp] theorem clockColumns_draws (P : Switches) (lines : Nibble) (s : State) : (clockColumns P lines s).draws = s.draws := rfl
@[simp] theorem clockColumns_clocks (P : Switches) (lines : Nibble) (s : State) : (clockColumns P lines s).clocks = s.clocks + 1 := rfl
@[simp] theorem clockColumns_host (P : Switches) (lines : Nibble) (s : State) : (clockColumns P lines s).host = s.host :=
  rfl
@[simp] theorem clockColumns_responses (P : Switches) (lines : Nibble) (s : State) : (clockColumns P lines s).responses = s.responses := rfl
@[simp] theorem clockColumns_trace (P : Switches) (lines : Nibble) (s : State) : (clockColumns P lines s).trace = s.trace := rfl
@[simp] theorem clockColumns_params (P : Switches) (lines : Nibble) (s : State) : (clockColumns P lines s).params = s.params := rfl

/-! clock -/

@[simp] theorem clock_rowOut (s : State) : (clock s).rowOut = s.rowOut := rfl
@[simp] theorem clock_data (s : State) : (clock s).data = s.data := rfl
@[simp] theorem clock_clk (s : State) : (clock s).clk = s.clk := rfl
@[simp] theorem clock_latch (s : State) : (clock s).latch = s.latch := rfl
@[simp] theorem clock_result (s : State) : (clock s).result = s.result := rfl
@[simp] theorem clock_edgePrev (s : State) : (clock s).edgePrev = s.edgePrev := rfl
@[simp] theorem clock_rspValid (s : State) : (clock s).rspValid = s.rspValid := rfl
@[simp] theorem clock_seq (s : State) : (clock s).seq = s.seq := rfl
@[simp] theorem clock_colSync (s : State) : (clock s).colSync = #v[columnLines s, s.colSync[0]] := rfl
@[simp] theorem clock_chain (s : State) : (clock s).chain = s.chain := rfl
@[simp] theorem clock_latched (s : State) : (clock s).latched = s.latched := rfl
@[simp] theorem clock_written (s : State) : (clock s).written = s.written := rfl
@[simp] theorem clock_switches (s : State) : (clock s).switches = freeSwitches s := rfl
@[simp] theorem clock_keypad (s : State) : (clock s).keypad = s.keypad := rfl
@[simp] theorem clock_draws (s : State) : (clock s).draws = s.draws := rfl
@[simp] theorem clock_clocks (s : State) : (clock s).clocks = s.clocks + 1 := rfl
@[simp] theorem clock_host (s : State) : (clock s).host = s.host := rfl
@[simp] theorem clock_responses (s : State) : (clock s).responses = s.responses := rfl
@[simp] theorem clock_trace (s : State) : (clock s).trace = s.trace := rfl
@[simp] theorem clock_params (s : State) : (clock s).params = s.params := rfl

/-! captureClock -/

@[simp] theorem captureClock_rowOut (s : State) : (captureClock s).rowOut = s.rowOut := rfl
@[simp] theorem captureClock_data (s : State) : (captureClock s).data = s.data := rfl
@[simp] theorem captureClock_clk (s : State) : (captureClock s).clk = s.clk := rfl
@[simp] theorem captureClock_latch (s : State) : (captureClock s).latch = s.latch := rfl
@[simp] theorem captureClock_result (s : State) : (captureClock s).result = s.result := rfl
@[simp] theorem captureClock_edgePrev (s : State) : (captureClock s).edgePrev = s.edgePrev := rfl
@[simp] theorem captureClock_rspValid (s : State) : (captureClock s).rspValid = s.rspValid := rfl
@[simp] theorem captureClock_seq (s : State) : (captureClock s).seq = s.seq := rfl
@[simp] theorem captureClock_colSync (s : State) : (captureClock s).colSync = #v[keypadAnswer s, s.colSync[0]] := rfl
@[simp] theorem captureClock_chain (s : State) : (captureClock s).chain = s.chain := rfl
@[simp] theorem captureClock_latched (s : State) : (captureClock s).latched = s.latched := rfl
@[simp] theorem captureClock_written (s : State) : (captureClock s).written = s.written := rfl
@[simp] theorem captureClock_switches (s : State) : (captureClock s).switches = freeSwitches s := rfl
@[simp] theorem captureClock_keypad (s : State) : (captureClock s).keypad = s.keypad := rfl
@[simp] theorem captureClock_draws (s : State) : (captureClock s).draws = s.draws := rfl
@[simp] theorem captureClock_clocks (s : State) : (captureClock s).clocks = s.clocks + 1 := rfl
@[simp] theorem captureClock_host (s : State) : (captureClock s).host = s.host := rfl
@[simp] theorem captureClock_responses (s : State) : (captureClock s).responses = s.responses := rfl
@[simp] theorem captureClock_trace (s : State) : (captureClock s).trace = s.trace := rfl
@[simp] theorem captureClock_params (s : State) : (captureClock s).params = s.params := rfl

/-! settleTick -/

@[simp] theorem settleTick_rowOut (left : Nat) (s : State) : (settleTick left s).rowOut = s.rowOut :=
  by
  unfold settleTick; split <;> rfl
@[simp] theorem settleTick_data (left : Nat) (s : State) : (settleTick left s).data = s.data :=
  by
  unfold settleTick; split <;> rfl
@[simp] theorem settleTick_clk (left : Nat) (s : State) : (settleTick left s).clk = s.clk :=
  by
  unfold settleTick; split <;> rfl
@[simp] theorem settleTick_latch (left : Nat) (s : State) : (settleTick left s).latch = s.latch :=
  by
  unfold settleTick; split <;> rfl
@[simp] theorem settleTick_result (left : Nat) (s : State) : (settleTick left s).result = s.result :=
  by
  unfold settleTick; split <;> rfl
@[simp] theorem settleTick_edgePrev (left : Nat) (s : State) : (settleTick left s).edgePrev = s.edgePrev :=
  by
  unfold settleTick; split <;> rfl
@[simp] theorem settleTick_rspValid (left : Nat) (s : State) : (settleTick left s).rspValid = s.rspValid :=
  by
  unfold settleTick; split <;> rfl
@[simp] theorem settleTick_seq (left : Nat) (s : State) : (settleTick left s).seq = s.seq :=
  by
  unfold settleTick; split <;> rfl
@[simp] theorem settleTick_chain (left : Nat) (s : State) : (settleTick left s).chain = s.chain :=
  by
  unfold settleTick; split <;> rfl
@[simp] theorem settleTick_latched (left : Nat) (s : State) : (settleTick left s).latched = s.latched :=
  by
  unfold settleTick; split <;> rfl
@[simp] theorem settleTick_written (left : Nat) (s : State) : (settleTick left s).written = s.written :=
  by
  unfold settleTick; split <;> rfl
@[simp] theorem settleTick_switches (left : Nat) (s : State) : (settleTick left s).switches = freeSwitches s :=
  by
  unfold settleTick; split <;> rfl
@[simp] theorem settleTick_keypad (left : Nat) (s : State) : (settleTick left s).keypad = s.keypad :=
  by
  unfold settleTick; split <;> rfl
@[simp] theorem settleTick_draws (left : Nat) (s : State) : (settleTick left s).draws = s.draws :=
  by
  unfold settleTick; split <;> rfl
@[simp] theorem settleTick_clocks (left : Nat) (s : State) : (settleTick left s).clocks = s.clocks + 1 :=
  by
  unfold settleTick; split <;> rfl
@[simp] theorem settleTick_host (left : Nat) (s : State) : (settleTick left s).host = s.host :=
  by
  unfold settleTick; split <;> rfl
@[simp] theorem settleTick_responses (left : Nat) (s : State) : (settleTick left s).responses = s.responses :=
  by
  unfold settleTick; split <;> rfl
@[simp] theorem settleTick_trace (left : Nat) (s : State) : (settleTick left s).trace = s.trace :=
  by
  unfold settleTick; split <;> rfl
@[simp] theorem settleTick_params (left : Nat) (s : State) : (settleTick left s).params = s.params :=
  by
  unfold settleTick; split <;> rfl

/-! setRows -/

@[simp] theorem setRows_rowOut (v : Nibble) (s : State) : (setRows v s).rowOut = v := rfl
@[simp] theorem setRows_data (v : Nibble) (s : State) : (setRows v s).data = s.data := rfl
@[simp] theorem setRows_clk (v : Nibble) (s : State) : (setRows v s).clk = s.clk := rfl
@[simp] theorem setRows_latch (v : Nibble) (s : State) : (setRows v s).latch = s.latch := rfl
@[simp] theorem setRows_result (v : Nibble) (s : State) : (setRows v s).result = s.result := rfl
@[simp] theorem setRows_edgePrev (v : Nibble) (s : State) : (setRows v s).edgePrev = s.edgePrev := rfl
@[simp] theorem setRows_rspValid (v : Nibble) (s : State) : (setRows v s).rspValid = s.rspValid := rfl
@[simp] theorem setRows_seq (v : Nibble) (s : State) : (setRows v s).seq = s.seq := rfl
@[simp] theorem setRows_colSync (v : Nibble) (s : State) : (setRows v s).colSync = s.colSync := rfl
@[simp] theorem setRows_chain (v : Nibble) (s : State) : (setRows v s).chain = s.chain := rfl
@[simp] theorem setRows_latched (v : Nibble) (s : State) : (setRows v s).latched = s.latched := rfl
@[simp] theorem setRows_written (v : Nibble) (s : State) : (setRows v s).written = s.written := rfl
@[simp] theorem setRows_switches (v : Nibble) (s : State) : (setRows v s).switches = s.switches := rfl
@[simp] theorem setRows_keypad (v : Nibble) (s : State) : (setRows v s).keypad = s.keypad := rfl
@[simp] theorem setRows_draws (v : Nibble) (s : State) : (setRows v s).draws = s.draws := rfl
@[simp] theorem setRows_clocks (v : Nibble) (s : State) : (setRows v s).clocks = s.clocks := rfl
@[simp] theorem setRows_host (v : Nibble) (s : State) : (setRows v s).host = s.host := rfl
@[simp] theorem setRows_responses (v : Nibble) (s : State) : (setRows v s).responses = s.responses := rfl
@[simp] theorem setRows_trace (v : Nibble) (s : State) : (setRows v s).trace = s.trace ++ [.driveRows v] := rfl
@[simp] theorem setRows_params (v : Nibble) (s : State) : (setRows v s).params = s.params := rfl

/-! setData -/

@[simp] theorem setData_rowOut (v : Bool) (s : State) : (setData v s).rowOut = s.rowOut := rfl
@[simp] theorem setData_data (v : Bool) (s : State) : (setData v s).data = v := rfl
@[simp] theorem setData_clk (v : Bool) (s : State) : (setData v s).clk = s.clk := rfl
@[simp] theorem setData_latch (v : Bool) (s : State) : (setData v s).latch = s.latch := rfl
@[simp] theorem setData_result (v : Bool) (s : State) : (setData v s).result = s.result := rfl
@[simp] theorem setData_edgePrev (v : Bool) (s : State) : (setData v s).edgePrev = s.edgePrev := rfl
@[simp] theorem setData_rspValid (v : Bool) (s : State) : (setData v s).rspValid = s.rspValid := rfl
@[simp] theorem setData_seq (v : Bool) (s : State) : (setData v s).seq = s.seq := rfl
@[simp] theorem setData_colSync (v : Bool) (s : State) : (setData v s).colSync = s.colSync := rfl
@[simp] theorem setData_chain (v : Bool) (s : State) : (setData v s).chain = keptContents s.params s.chain := rfl
@[simp] theorem setData_latched (v : Bool) (s : State) : (setData v s).latched = keptContents s.params s.latched := rfl
@[simp] theorem setData_written (v : Bool) (s : State) : (setData v s).written = s.written := rfl
@[simp] theorem setData_switches (v : Bool) (s : State) : (setData v s).switches = s.switches := rfl
@[simp] theorem setData_keypad (v : Bool) (s : State) : (setData v s).keypad = s.keypad := rfl
@[simp] theorem setData_draws (v : Bool) (s : State) : (setData v s).draws = s.draws := rfl
@[simp] theorem setData_clocks (v : Bool) (s : State) : (setData v s).clocks = s.clocks := rfl
@[simp] theorem setData_host (v : Bool) (s : State) : (setData v s).host = s.host := rfl
@[simp] theorem setData_responses (v : Bool) (s : State) : (setData v s).responses = s.responses := rfl
@[simp] theorem setData_trace (v : Bool) (s : State) : (setData v s).trace = s.trace ++ [.drive .data v] := rfl
@[simp] theorem setData_params (v : Bool) (s : State) : (setData v s).params = s.params := rfl

/-! setClk -/

@[simp] theorem setClk_rowOut (v : Bool) (s : State) : (setClk v s).rowOut = s.rowOut := rfl
@[simp] theorem setClk_data (v : Bool) (s : State) : (setClk v s).data = s.data := rfl
@[simp] theorem setClk_clk (v : Bool) (s : State) : (setClk v s).clk = v := rfl
@[simp] theorem setClk_latch (v : Bool) (s : State) : (setClk v s).latch = s.latch := rfl
@[simp] theorem setClk_result (v : Bool) (s : State) : (setClk v s).result = s.result := rfl
@[simp] theorem setClk_edgePrev (v : Bool) (s : State) : (setClk v s).edgePrev = s.edgePrev := rfl
@[simp] theorem setClk_rspValid (v : Bool) (s : State) : (setClk v s).rspValid = s.rspValid := rfl
@[simp] theorem setClk_seq (v : Bool) (s : State) : (setClk v s).seq = s.seq := rfl
@[simp] theorem setClk_colSync (v : Bool) (s : State) : (setClk v s).colSync = s.colSync := rfl
@[simp] theorem setClk_chain (v : Bool) (s : State) : (setClk v s).chain = chainAfterClk s.params s.clk v s.data s.chain := rfl
@[simp] theorem setClk_latched (v : Bool) (s : State) : (setClk v s).latched = keptContents s.params s.latched := rfl
@[simp] theorem setClk_written (v : Bool) (s : State) : (setClk v s).written = s.written := rfl
@[simp] theorem setClk_switches (v : Bool) (s : State) : (setClk v s).switches = s.switches := rfl
@[simp] theorem setClk_keypad (v : Bool) (s : State) : (setClk v s).keypad = s.keypad := rfl
@[simp] theorem setClk_draws (v : Bool) (s : State) : (setClk v s).draws = s.draws := rfl
@[simp] theorem setClk_clocks (v : Bool) (s : State) : (setClk v s).clocks = s.clocks := rfl
@[simp] theorem setClk_host (v : Bool) (s : State) : (setClk v s).host = s.host := rfl
@[simp] theorem setClk_responses (v : Bool) (s : State) : (setClk v s).responses = s.responses := rfl
@[simp] theorem setClk_trace (v : Bool) (s : State) : (setClk v s).trace = s.trace ++ [.drive .clk v] := rfl
@[simp] theorem setClk_params (v : Bool) (s : State) : (setClk v s).params = s.params := rfl

/-! setLatch -/

@[simp] theorem setLatch_rowOut (v : Bool) (s : State) : (setLatch v s).rowOut = s.rowOut := rfl
@[simp] theorem setLatch_data (v : Bool) (s : State) : (setLatch v s).data = s.data := rfl
@[simp] theorem setLatch_clk (v : Bool) (s : State) : (setLatch v s).clk = s.clk := rfl
@[simp] theorem setLatch_latch (v : Bool) (s : State) : (setLatch v s).latch = v := rfl
@[simp] theorem setLatch_result (v : Bool) (s : State) : (setLatch v s).result = s.result := rfl
@[simp] theorem setLatch_edgePrev (v : Bool) (s : State) : (setLatch v s).edgePrev = s.edgePrev := rfl
@[simp] theorem setLatch_rspValid (v : Bool) (s : State) : (setLatch v s).rspValid = s.rspValid := rfl
@[simp] theorem setLatch_seq (v : Bool) (s : State) : (setLatch v s).seq = s.seq := rfl
@[simp] theorem setLatch_colSync (v : Bool) (s : State) : (setLatch v s).colSync = s.colSync := rfl
@[simp] theorem setLatch_chain (v : Bool) (s : State) : (setLatch v s).chain = keptContents s.params s.chain := rfl
@[simp] theorem setLatch_latched (v : Bool) (s : State) : (setLatch v s).latched = qAfterLatch s.params s.latch v s.chain s.latched := rfl
@[simp] theorem setLatch_written (v : Bool) (s : State) : (setLatch v s).written = s.written := rfl
@[simp] theorem setLatch_switches (v : Bool) (s : State) : (setLatch v s).switches = s.switches := rfl
@[simp] theorem setLatch_keypad (v : Bool) (s : State) : (setLatch v s).keypad = s.keypad := rfl
@[simp] theorem setLatch_draws (v : Bool) (s : State) : (setLatch v s).draws = s.draws := rfl
@[simp] theorem setLatch_clocks (v : Bool) (s : State) : (setLatch v s).clocks = s.clocks := rfl
@[simp] theorem setLatch_host (v : Bool) (s : State) : (setLatch v s).host = s.host := rfl
@[simp] theorem setLatch_responses (v : Bool) (s : State) : (setLatch v s).responses = s.responses := rfl
@[simp] theorem setLatch_trace (v : Bool) (s : State) : (setLatch v s).trace = s.trace ++ [.drive .latch v] := rfl
@[simp] theorem setLatch_params (v : Bool) (s : State) : (setLatch v s).params = s.params := rfl

/-! driveRows -/

@[simp] theorem driveRows_rowOut (v : Nibble) (s : State) : (driveRows v s).rowOut = v := rfl
@[simp] theorem driveRows_data (v : Nibble) (s : State) : (driveRows v s).data = s.data := rfl
@[simp] theorem driveRows_clk (v : Nibble) (s : State) : (driveRows v s).clk = s.clk := rfl
@[simp] theorem driveRows_latch (v : Nibble) (s : State) : (driveRows v s).latch = s.latch := rfl
@[simp] theorem driveRows_result (v : Nibble) (s : State) : (driveRows v s).result = s.result := rfl
@[simp] theorem driveRows_edgePrev (v : Nibble) (s : State) : (driveRows v s).edgePrev = s.edgePrev := rfl
@[simp] theorem driveRows_rspValid (v : Nibble) (s : State) : (driveRows v s).rspValid = s.rspValid := rfl
@[simp] theorem driveRows_seq (v : Nibble) (s : State) : (driveRows v s).seq = s.seq := rfl
@[simp] theorem driveRows_colSync (v : Nibble) (s : State) : (driveRows v s).colSync = (clock s).colSync := rfl
@[simp] theorem driveRows_chain (v : Nibble) (s : State) : (driveRows v s).chain = s.chain := rfl
@[simp] theorem driveRows_latched (v : Nibble) (s : State) : (driveRows v s).latched = s.latched := rfl
@[simp] theorem driveRows_written (v : Nibble) (s : State) : (driveRows v s).written = s.written := rfl
@[simp] theorem driveRows_switches (v : Nibble) (s : State) : (driveRows v s).switches = freeSwitches s := rfl
@[simp] theorem driveRows_keypad (v : Nibble) (s : State) : (driveRows v s).keypad = s.keypad := rfl
@[simp] theorem driveRows_draws (v : Nibble) (s : State) : (driveRows v s).draws = s.draws := rfl
@[simp] theorem driveRows_clocks (v : Nibble) (s : State) : (driveRows v s).clocks = s.clocks + 1 := rfl
@[simp] theorem driveRows_host (v : Nibble) (s : State) : (driveRows v s).host = s.host := rfl
@[simp] theorem driveRows_responses (v : Nibble) (s : State) : (driveRows v s).responses = s.responses := rfl
@[simp] theorem driveRows_trace (v : Nibble) (s : State) : (driveRows v s).trace = s.trace ++ [.driveRows v] := rfl
@[simp] theorem driveRows_params (v : Nibble) (s : State) : (driveRows v s).params = s.params := rfl

/-! driveData -/

@[simp] theorem driveData_rowOut (v : Bool) (s : State) : (driveData v s).rowOut = s.rowOut := rfl
@[simp] theorem driveData_data (v : Bool) (s : State) : (driveData v s).data = v := rfl
@[simp] theorem driveData_clk (v : Bool) (s : State) : (driveData v s).clk = s.clk := rfl
@[simp] theorem driveData_latch (v : Bool) (s : State) : (driveData v s).latch = s.latch := rfl
@[simp] theorem driveData_result (v : Bool) (s : State) : (driveData v s).result = s.result := rfl
@[simp] theorem driveData_edgePrev (v : Bool) (s : State) : (driveData v s).edgePrev = s.edgePrev := rfl
@[simp] theorem driveData_rspValid (v : Bool) (s : State) : (driveData v s).rspValid = s.rspValid := rfl
@[simp] theorem driveData_seq (v : Bool) (s : State) : (driveData v s).seq = s.seq := rfl
@[simp] theorem driveData_colSync (v : Bool) (s : State) : (driveData v s).colSync = (clock s).colSync := rfl
@[simp] theorem driveData_chain (v : Bool) (s : State) : (driveData v s).chain = keptContents s.params s.chain := rfl
@[simp] theorem driveData_latched (v : Bool) (s : State) : (driveData v s).latched = keptContents s.params s.latched :=
  rfl
@[simp] theorem driveData_written (v : Bool) (s : State) : (driveData v s).written = s.written := rfl
@[simp] theorem driveData_switches (v : Bool) (s : State) : (driveData v s).switches = freeSwitches s := rfl
@[simp] theorem driveData_keypad (v : Bool) (s : State) : (driveData v s).keypad = s.keypad := rfl
@[simp] theorem driveData_draws (v : Bool) (s : State) : (driveData v s).draws = s.draws := rfl
@[simp] theorem driveData_clocks (v : Bool) (s : State) : (driveData v s).clocks = s.clocks + 1 := rfl
@[simp] theorem driveData_host (v : Bool) (s : State) : (driveData v s).host = s.host := rfl
@[simp] theorem driveData_responses (v : Bool) (s : State) : (driveData v s).responses = s.responses := rfl
@[simp] theorem driveData_trace (v : Bool) (s : State) : (driveData v s).trace = s.trace ++ [.drive .data v] := rfl
@[simp] theorem driveData_params (v : Bool) (s : State) : (driveData v s).params = s.params := rfl

/-! driveClk -/

@[simp] theorem driveClk_rowOut (v : Bool) (s : State) : (driveClk v s).rowOut = s.rowOut := rfl
@[simp] theorem driveClk_data (v : Bool) (s : State) : (driveClk v s).data = s.data := rfl
@[simp] theorem driveClk_clk (v : Bool) (s : State) : (driveClk v s).clk = v := rfl
@[simp] theorem driveClk_latch (v : Bool) (s : State) : (driveClk v s).latch = s.latch := rfl
@[simp] theorem driveClk_result (v : Bool) (s : State) : (driveClk v s).result = s.result := rfl
@[simp] theorem driveClk_edgePrev (v : Bool) (s : State) : (driveClk v s).edgePrev = s.edgePrev := rfl
@[simp] theorem driveClk_rspValid (v : Bool) (s : State) : (driveClk v s).rspValid = s.rspValid := rfl
@[simp] theorem driveClk_seq (v : Bool) (s : State) : (driveClk v s).seq = s.seq := rfl
@[simp] theorem driveClk_colSync (v : Bool) (s : State) : (driveClk v s).colSync = (clock s).colSync := rfl
@[simp] theorem driveClk_chain (v : Bool) (s : State) : (driveClk v s).chain = chainAfterClk s.params s.clk v s.data s.chain := rfl
@[simp] theorem driveClk_latched (v : Bool) (s : State) : (driveClk v s).latched = keptContents s.params s.latched :=
  rfl
@[simp] theorem driveClk_written (v : Bool) (s : State) : (driveClk v s).written = s.written := rfl
@[simp] theorem driveClk_switches (v : Bool) (s : State) : (driveClk v s).switches = freeSwitches s := rfl
@[simp] theorem driveClk_keypad (v : Bool) (s : State) : (driveClk v s).keypad = s.keypad := rfl
@[simp] theorem driveClk_draws (v : Bool) (s : State) : (driveClk v s).draws = s.draws := rfl
@[simp] theorem driveClk_clocks (v : Bool) (s : State) : (driveClk v s).clocks = s.clocks + 1 := rfl
@[simp] theorem driveClk_host (v : Bool) (s : State) : (driveClk v s).host = s.host := rfl
@[simp] theorem driveClk_responses (v : Bool) (s : State) : (driveClk v s).responses = s.responses := rfl
@[simp] theorem driveClk_trace (v : Bool) (s : State) : (driveClk v s).trace = s.trace ++ [.drive .clk v] := rfl
@[simp] theorem driveClk_params (v : Bool) (s : State) : (driveClk v s).params = s.params := rfl

/-! driveLatch -/

@[simp] theorem driveLatch_rowOut (v : Bool) (s : State) : (driveLatch v s).rowOut = s.rowOut := rfl
@[simp] theorem driveLatch_data (v : Bool) (s : State) : (driveLatch v s).data = s.data := rfl
@[simp] theorem driveLatch_clk (v : Bool) (s : State) : (driveLatch v s).clk = s.clk := rfl
@[simp] theorem driveLatch_latch (v : Bool) (s : State) : (driveLatch v s).latch = v := rfl
@[simp] theorem driveLatch_result (v : Bool) (s : State) : (driveLatch v s).result = s.result := rfl
@[simp] theorem driveLatch_edgePrev (v : Bool) (s : State) : (driveLatch v s).edgePrev = s.edgePrev := rfl
@[simp] theorem driveLatch_rspValid (v : Bool) (s : State) : (driveLatch v s).rspValid = s.rspValid := rfl
@[simp] theorem driveLatch_seq (v : Bool) (s : State) : (driveLatch v s).seq = s.seq := rfl
@[simp] theorem driveLatch_colSync (v : Bool) (s : State) : (driveLatch v s).colSync = (clock s).colSync := rfl
@[simp] theorem driveLatch_chain (v : Bool) (s : State) : (driveLatch v s).chain = keptContents s.params s.chain := rfl
@[simp] theorem driveLatch_latched (v : Bool) (s : State) : (driveLatch v s).latched = qAfterLatch s.params s.latch v s.chain s.latched := rfl
@[simp] theorem driveLatch_written (v : Bool) (s : State) : (driveLatch v s).written = s.written := rfl
@[simp] theorem driveLatch_switches (v : Bool) (s : State) : (driveLatch v s).switches = freeSwitches s := rfl
@[simp] theorem driveLatch_keypad (v : Bool) (s : State) : (driveLatch v s).keypad = s.keypad := rfl
@[simp] theorem driveLatch_draws (v : Bool) (s : State) : (driveLatch v s).draws = s.draws := rfl
@[simp] theorem driveLatch_clocks (v : Bool) (s : State) : (driveLatch v s).clocks = s.clocks + 1 := rfl
@[simp] theorem driveLatch_host (v : Bool) (s : State) : (driveLatch v s).host = s.host := rfl
@[simp] theorem driveLatch_responses (v : Bool) (s : State) : (driveLatch v s).responses = s.responses := rfl
@[simp] theorem driveLatch_trace (v : Bool) (s : State) : (driveLatch v s).trace = s.trace ++ [.drive .latch v] := rfl
@[simp] theorem driveLatch_params (v : Bool) (s : State) : (driveLatch v s).params = s.params := rfl

/-! Any number of ticks. -/

/-- What every tick keeps, any number of them keeps. -/
theorem passTicks_keeps {α : Type} {tickAt : Nat → State → State} (field : State → α)
    (h : ∀ left s, field (tickAt left s) = field s) (n : Nat) (s : State) : field (passTicks tickAt n s) = field s := by
  induction n generalizing s with
  | zero => rfl
  | succ n ih => exact (ih (tickAt (n + 1) s)).trans (h (n + 1) s)

theorem passTicks_clocks {tickAt : Nat → State → State} (h : ∀ left s, (tickAt left s).clocks = s.clocks + 1) (n : Nat)
    (s : State) : (passTicks tickAt n s).clocks = s.clocks + n := by
  induction n generalizing s with
  | zero => rfl
  | succ n ih => rw [passTicks, ih, h]; omega

/-! waitFor -/

@[simp] theorem waitFor_rowOut (tickAt : Nat → State → State) (n : Nat) (s : State) : (waitFor tickAt n s).rowOut = s.rowOut := rfl
@[simp] theorem waitFor_data (tickAt : Nat → State → State) (n : Nat) (s : State) : (waitFor tickAt n s).data = s.data :=
  rfl
@[simp] theorem waitFor_clk (tickAt : Nat → State → State) (n : Nat) (s : State) : (waitFor tickAt n s).clk = s.clk :=
  rfl
@[simp] theorem waitFor_latch (tickAt : Nat → State → State) (n : Nat) (s : State) : (waitFor tickAt n s).latch = s.latch := rfl
@[simp] theorem waitFor_result (tickAt : Nat → State → State) (n : Nat) (s : State) : (waitFor tickAt n s).result = s.result := rfl
@[simp] theorem waitFor_edgePrev (tickAt : Nat → State → State) (n : Nat) (s : State) : (waitFor tickAt n s).edgePrev = s.edgePrev := rfl
@[simp] theorem waitFor_rspValid (tickAt : Nat → State → State) (n : Nat) (s : State) : (waitFor tickAt n s).rspValid = s.rspValid := rfl
@[simp] theorem waitFor_seq (tickAt : Nat → State → State) (n : Nat) (s : State) : (waitFor tickAt n s).seq = s.seq :=
  rfl
@[simp] theorem waitFor_colSync (tickAt : Nat → State → State) (n : Nat) (s : State) : (waitFor tickAt n s).colSync = (passTicks tickAt n s).colSync := rfl
@[simp] theorem waitFor_chain (tickAt : Nat → State → State) (n : Nat) (s : State) : (waitFor tickAt n s).chain = s.chain := rfl
@[simp] theorem waitFor_latched (tickAt : Nat → State → State) (n : Nat) (s : State) : (waitFor tickAt n s).latched = s.latched := rfl
@[simp] theorem waitFor_written (tickAt : Nat → State → State) (n : Nat) (s : State) : (waitFor tickAt n s).written = s.written := rfl
@[simp] theorem waitFor_switches (tickAt : Nat → State → State) (n : Nat) (s : State) : (waitFor tickAt n s).switches = (passTicks tickAt n s).switches := rfl
@[simp] theorem waitFor_keypad (tickAt : Nat → State → State) (n : Nat) (s : State) : (waitFor tickAt n s).keypad = s.keypad := rfl
@[simp] theorem waitFor_draws (tickAt : Nat → State → State) (n : Nat) (s : State) : (waitFor tickAt n s).draws = s.draws := rfl
@[simp] theorem waitFor_clocks (tickAt : Nat → State → State) (n : Nat) (s : State) : (waitFor tickAt n s).clocks = s.clocks + n := rfl
@[simp] theorem waitFor_host (tickAt : Nat → State → State) (n : Nat) (s : State) : (waitFor tickAt n s).host = s.host :=
  rfl
@[simp] theorem waitFor_responses (tickAt : Nat → State → State) (n : Nat) (s : State) : (waitFor tickAt n s).responses = s.responses := rfl
@[simp] theorem waitFor_trace (tickAt : Nat → State → State) (n : Nat) (s : State) : (waitFor tickAt n s).trace = s.trace ++ [.hold n] := rfl
@[simp] theorem waitFor_params (tickAt : Nat → State → State) (n : Nat) (s : State) : (waitFor tickAt n s).params = s.params := rfl

/-! holdFor -/

@[simp] theorem holdFor_rowOut (n : Nat) (s : State) : (holdFor n s).rowOut = s.rowOut := rfl
@[simp] theorem holdFor_data (n : Nat) (s : State) : (holdFor n s).data = s.data := rfl
@[simp] theorem holdFor_clk (n : Nat) (s : State) : (holdFor n s).clk = s.clk := rfl
@[simp] theorem holdFor_latch (n : Nat) (s : State) : (holdFor n s).latch = s.latch := rfl
@[simp] theorem holdFor_result (n : Nat) (s : State) : (holdFor n s).result = s.result := rfl
@[simp] theorem holdFor_edgePrev (n : Nat) (s : State) : (holdFor n s).edgePrev = s.edgePrev := rfl
@[simp] theorem holdFor_rspValid (n : Nat) (s : State) : (holdFor n s).rspValid = s.rspValid := rfl
@[simp] theorem holdFor_seq (n : Nat) (s : State) : (holdFor n s).seq = s.seq := rfl
@[simp] theorem holdFor_colSync (n : Nat) (s : State) : (holdFor n s).colSync = (passTicks (fun _ => clock) n s).colSync := rfl
@[simp] theorem holdFor_chain (n : Nat) (s : State) : (holdFor n s).chain = s.chain := rfl
@[simp] theorem holdFor_latched (n : Nat) (s : State) : (holdFor n s).latched = s.latched := rfl
@[simp] theorem holdFor_written (n : Nat) (s : State) : (holdFor n s).written = s.written := rfl
@[simp] theorem holdFor_switches (n : Nat) (s : State) : (holdFor n s).switches = (passTicks (fun _ => clock) n s).switches := rfl
@[simp] theorem holdFor_keypad (n : Nat) (s : State) : (holdFor n s).keypad = s.keypad := rfl
@[simp] theorem holdFor_draws (n : Nat) (s : State) : (holdFor n s).draws = s.draws := rfl
@[simp] theorem holdFor_clocks (n : Nat) (s : State) : (holdFor n s).clocks = s.clocks + n := rfl
@[simp] theorem holdFor_host (n : Nat) (s : State) : (holdFor n s).host = s.host := rfl
@[simp] theorem holdFor_responses (n : Nat) (s : State) : (holdFor n s).responses = s.responses := rfl
@[simp] theorem holdFor_trace (n : Nat) (s : State) : (holdFor n s).trace = s.trace ++ [.hold n] := rfl
@[simp] theorem holdFor_params (n : Nat) (s : State) : (holdFor n s).params = s.params := rfl

/-! settleFor -/

@[simp] theorem settleFor_rowOut (n : Nat) (s : State) : (settleFor n s).rowOut = s.rowOut := rfl
@[simp] theorem settleFor_data (n : Nat) (s : State) : (settleFor n s).data = s.data := rfl
@[simp] theorem settleFor_clk (n : Nat) (s : State) : (settleFor n s).clk = s.clk := rfl
@[simp] theorem settleFor_latch (n : Nat) (s : State) : (settleFor n s).latch = s.latch := rfl
@[simp] theorem settleFor_result (n : Nat) (s : State) : (settleFor n s).result = s.result := rfl
@[simp] theorem settleFor_edgePrev (n : Nat) (s : State) : (settleFor n s).edgePrev = s.edgePrev := rfl
@[simp] theorem settleFor_rspValid (n : Nat) (s : State) : (settleFor n s).rspValid = s.rspValid := rfl
@[simp] theorem settleFor_seq (n : Nat) (s : State) : (settleFor n s).seq = s.seq := rfl
@[simp] theorem settleFor_colSync (n : Nat) (s : State) : (settleFor n s).colSync = (passTicks settleTick n s).colSync :=
  rfl
@[simp] theorem settleFor_chain (n : Nat) (s : State) : (settleFor n s).chain = s.chain := rfl
@[simp] theorem settleFor_latched (n : Nat) (s : State) : (settleFor n s).latched = s.latched := rfl
@[simp] theorem settleFor_written (n : Nat) (s : State) : (settleFor n s).written = s.written := rfl
@[simp] theorem settleFor_switches (n : Nat) (s : State) : (settleFor n s).switches = (passTicks settleTick n s).switches := rfl
@[simp] theorem settleFor_keypad (n : Nat) (s : State) : (settleFor n s).keypad = s.keypad := rfl
@[simp] theorem settleFor_draws (n : Nat) (s : State) : (settleFor n s).draws = s.draws := rfl
@[simp] theorem settleFor_clocks (n : Nat) (s : State) : (settleFor n s).clocks = s.clocks + n := rfl
@[simp] theorem settleFor_host (n : Nat) (s : State) : (settleFor n s).host = s.host := rfl
@[simp] theorem settleFor_responses (n : Nat) (s : State) : (settleFor n s).responses = s.responses := rfl
@[simp] theorem settleFor_trace (n : Nat) (s : State) : (settleFor n s).trace = s.trace ++ [.hold n] := rfl
@[simp] theorem settleFor_params (n : Nat) (s : State) : (settleFor n s).params = s.params := rfl

/-! holdLine -/

@[simp] theorem holdLine_rowOut (s : State) : (holdLine s).rowOut = s.rowOut := rfl
@[simp] theorem holdLine_data (s : State) : (holdLine s).data = s.data := rfl
@[simp] theorem holdLine_clk (s : State) : (holdLine s).clk = s.clk := rfl
@[simp] theorem holdLine_latch (s : State) : (holdLine s).latch = s.latch := rfl
@[simp] theorem holdLine_result (s : State) : (holdLine s).result = s.result := rfl
@[simp] theorem holdLine_edgePrev (s : State) : (holdLine s).edgePrev = s.edgePrev := rfl
@[simp] theorem holdLine_rspValid (s : State) : (holdLine s).rspValid = s.rspValid := rfl
@[simp] theorem holdLine_seq (s : State) : (holdLine s).seq = s.seq := rfl
@[simp] theorem holdLine_colSync (s : State) : (holdLine s).colSync = (passTicks (fun _ => clock) s.params.holdTicks s).colSync := rfl
@[simp] theorem holdLine_chain (s : State) : (holdLine s).chain = s.chain := rfl
@[simp] theorem holdLine_latched (s : State) : (holdLine s).latched = s.latched := rfl
@[simp] theorem holdLine_written (s : State) : (holdLine s).written = s.written := rfl
@[simp] theorem holdLine_switches (s : State) : (holdLine s).switches = (passTicks (fun _ => clock) s.params.holdTicks s).switches := rfl
@[simp] theorem holdLine_keypad (s : State) : (holdLine s).keypad = s.keypad := rfl
@[simp] theorem holdLine_draws (s : State) : (holdLine s).draws = s.draws := rfl
@[simp] theorem holdLine_clocks (s : State) : (holdLine s).clocks = s.clocks + s.params.holdTicks := rfl
@[simp] theorem holdLine_host (s : State) : (holdLine s).host = s.host := rfl
@[simp] theorem holdLine_responses (s : State) : (holdLine s).responses = s.responses := rfl
@[simp] theorem holdLine_trace (s : State) : (holdLine s).trace = s.trace ++ [.hold s.params.holdTicks] := rfl
@[simp] theorem holdLine_params (s : State) : (holdLine s).params = s.params := rfl

/-! visitRow -/

@[simp] theorem visitRow_rowOut (r : Fin nRows) (s : State) : (visitRow r s).rowOut = onehot4 r := rfl
@[simp] theorem visitRow_data (r : Fin nRows) (s : State) : (visitRow r s).data = s.data := rfl
@[simp] theorem visitRow_clk (r : Fin nRows) (s : State) : (visitRow r s).clk = s.clk := rfl
@[simp] theorem visitRow_latch (r : Fin nRows) (s : State) : (visitRow r s).latch = s.latch := rfl
@[simp] theorem visitRow_result (r : Fin nRows) (s : State) : (visitRow r s).result = s.result := rfl
@[simp] theorem visitRow_edgePrev (r : Fin nRows) (s : State) : (visitRow r s).edgePrev = s.edgePrev := rfl
@[simp] theorem visitRow_rspValid (r : Fin nRows) (s : State) : (visitRow r s).rspValid = s.rspValid := rfl
@[simp] theorem visitRow_seq (r : Fin nRows) (s : State) : (visitRow r s).seq = s.seq := rfl
@[simp] theorem visitRow_chain (r : Fin nRows) (s : State) : (visitRow r s).chain = s.chain := rfl
@[simp] theorem visitRow_latched (r : Fin nRows) (s : State) : (visitRow r s).latched = s.latched := rfl
@[simp] theorem visitRow_written (r : Fin nRows) (s : State) : (visitRow r s).written = s.written := rfl
@[simp] theorem visitRow_keypad (r : Fin nRows) (s : State) : (visitRow r s).keypad = s.keypad := rfl
@[simp] theorem visitRow_draws (r : Fin nRows) (s : State) : (visitRow r s).draws = s.draws := rfl
@[simp] theorem visitRow_clocks (r : Fin nRows) (s : State) : (visitRow r s).clocks = s.clocks + 1 + s.params.settleTicks := rfl
@[simp] theorem visitRow_host (r : Fin nRows) (s : State) : (visitRow r s).host = s.host := rfl
@[simp] theorem visitRow_responses (r : Fin nRows) (s : State) : (visitRow r s).responses = s.responses := rfl
@[simp] theorem visitRow_trace (r : Fin nRows) (s : State) : (visitRow r s).trace = s.trace ++ [.driveRows (onehot4 r)] ++ [.hold s.params.settleTicks] := rfl
@[simp] theorem visitRow_params (r : Fin nRows) (s : State) : (visitRow r s).params = s.params := rfl

/-! afterSample -/

@[simp] theorem afterSample_rowOut (s : State) : (afterSample s).rowOut = s.rowOut := rfl
@[simp] theorem afterSample_data (s : State) : (afterSample s).data = s.data := rfl
@[simp] theorem afterSample_clk (s : State) : (afterSample s).clk = s.clk := rfl
@[simp] theorem afterSample_latch (s : State) : (afterSample s).latch = s.latch := rfl
@[simp] theorem afterSample_result (s : State) : (afterSample s).result = s.result := rfl
@[simp] theorem afterSample_edgePrev (s : State) : (afterSample s).edgePrev = s.edgePrev := rfl
@[simp] theorem afterSample_rspValid (s : State) : (afterSample s).rspValid = s.rspValid := rfl
@[simp] theorem afterSample_seq (s : State) : (afterSample s).seq = s.seq := rfl
@[simp] theorem afterSample_colSync (s : State) : (afterSample s).colSync = #v[lateLines s, s.colSync[0]] := rfl
@[simp] theorem afterSample_chain (s : State) : (afterSample s).chain = s.chain := rfl
@[simp] theorem afterSample_latched (s : State) : (afterSample s).latched = s.latched := rfl
@[simp] theorem afterSample_written (s : State) : (afterSample s).written = s.written := rfl
@[simp] theorem afterSample_switches (s : State) : (afterSample s).switches = (upcoming s 0).switches := rfl
@[simp] theorem afterSample_keypad (s : State) : (afterSample s).keypad = s.keypad.drop 1 := rfl
@[simp] theorem afterSample_draws (s : State) : (afterSample s).draws = if s.keypad.isEmpty then s.draws + 1 else s.draws := rfl
@[simp] theorem afterSample_clocks (s : State) : (afterSample s).clocks = s.clocks + 1 := rfl
@[simp] theorem afterSample_host (s : State) : (afterSample s).host = s.host := rfl
@[simp] theorem afterSample_responses (s : State) : (afterSample s).responses = s.responses := rfl
@[simp] theorem afterSample_trace (s : State) : (afterSample s).trace = s.trace ++ [.sample (columnSample s)] := rfl
@[simp] theorem afterSample_params (s : State) : (afterSample s).params = s.params := rfl

/-! respond -/

@[simp] theorem respond_rowOut (w : Word) (s : State) : (respond w s).rowOut = s.rowOut := rfl
@[simp] theorem respond_data (w : Word) (s : State) : (respond w s).data = s.data := rfl
@[simp] theorem respond_clk (w : Word) (s : State) : (respond w s).clk = s.clk := rfl
@[simp] theorem respond_latch (w : Word) (s : State) : (respond w s).latch = s.latch := rfl
@[simp] theorem respond_result (w : Word) (s : State) : (respond w s).result = w := rfl
@[simp] theorem respond_edgePrev (w : Word) (s : State) : (respond w s).edgePrev = s.edgePrev := rfl
@[simp] theorem respond_rspValid (w : Word) (s : State) : (respond w s).rspValid = true := rfl
@[simp] theorem respond_seq (w : Word) (s : State) : (respond w s).seq = none := rfl
@[simp] theorem respond_colSync (w : Word) (s : State) : (respond w s).colSync = (clock s).colSync := rfl
@[simp] theorem respond_chain (w : Word) (s : State) : (respond w s).chain = s.chain := rfl
@[simp] theorem respond_latched (w : Word) (s : State) : (respond w s).latched = s.latched := rfl
@[simp] theorem respond_written (w : Word) (s : State) : (respond w s).written = s.written := rfl
@[simp] theorem respond_switches (w : Word) (s : State) : (respond w s).switches = freeSwitches s := rfl
@[simp] theorem respond_keypad (w : Word) (s : State) : (respond w s).keypad = s.keypad := rfl
@[simp] theorem respond_draws (w : Word) (s : State) : (respond w s).draws = s.draws := rfl
@[simp] theorem respond_clocks (w : Word) (s : State) : (respond w s).clocks = s.clocks + 1 := rfl
@[simp] theorem respond_host (w : Word) (s : State) : (respond w s).host = s.host := rfl
@[simp] theorem respond_responses (w : Word) (s : State) : (respond w s).responses = s.responses ++ [w] := rfl
@[simp] theorem respond_trace (w : Word) (s : State) : (respond w s).trace = s.trace ++ [.respond w] := rfl
@[simp] theorem respond_params (w : Word) (s : State) : (respond w s).params = s.params := rfl

/-! State.setSeq -/

@[simp] theorem setSeq_rowOut (fields : Sequencer) (s : State) : (State.setSeq fields s).rowOut = s.rowOut := rfl
@[simp] theorem setSeq_data (fields : Sequencer) (s : State) : (State.setSeq fields s).data = s.data := rfl
@[simp] theorem setSeq_clk (fields : Sequencer) (s : State) : (State.setSeq fields s).clk = s.clk := rfl
@[simp] theorem setSeq_latch (fields : Sequencer) (s : State) : (State.setSeq fields s).latch = s.latch := rfl
@[simp] theorem setSeq_result (fields : Sequencer) (s : State) : (State.setSeq fields s).result = s.result := rfl
@[simp] theorem setSeq_edgePrev (fields : Sequencer) (s : State) : (State.setSeq fields s).edgePrev = s.edgePrev := rfl
@[simp] theorem setSeq_rspValid (fields : Sequencer) (s : State) : (State.setSeq fields s).rspValid = s.rspValid := rfl
@[simp] theorem setSeq_seq (fields : Sequencer) (s : State) : (State.setSeq fields s).seq = some fields := rfl
@[simp] theorem setSeq_colSync (fields : Sequencer) (s : State) : (State.setSeq fields s).colSync = s.colSync := rfl
@[simp] theorem setSeq_chain (fields : Sequencer) (s : State) : (State.setSeq fields s).chain = s.chain := rfl
@[simp] theorem setSeq_latched (fields : Sequencer) (s : State) : (State.setSeq fields s).latched = s.latched := rfl
@[simp] theorem setSeq_written (fields : Sequencer) (s : State) : (State.setSeq fields s).written = s.written := rfl
@[simp] theorem setSeq_switches (fields : Sequencer) (s : State) : (State.setSeq fields s).switches = s.switches := rfl
@[simp] theorem setSeq_keypad (fields : Sequencer) (s : State) : (State.setSeq fields s).keypad = s.keypad := rfl
@[simp] theorem setSeq_draws (fields : Sequencer) (s : State) : (State.setSeq fields s).draws = s.draws := rfl
@[simp] theorem setSeq_clocks (fields : Sequencer) (s : State) : (State.setSeq fields s).clocks = s.clocks := rfl
@[simp] theorem setSeq_host (fields : Sequencer) (s : State) : (State.setSeq fields s).host = s.host := rfl
@[simp] theorem setSeq_responses (fields : Sequencer) (s : State) : (State.setSeq fields s).responses = s.responses :=
  rfl
@[simp] theorem setSeq_trace (fields : Sequencer) (s : State) : (State.setSeq fields s).trace = s.trace := rfl
@[simp] theorem setSeq_params (fields : Sequencer) (s : State) : (State.setSeq fields s).params = s.params := rfl

/-! accept -/

@[simp] theorem accept_rowOut (i : Instr) (s : State) : (accept i s).rowOut = s.rowOut := rfl
@[simp] theorem accept_data (i : Instr) (s : State) : (accept i s).data = s.data := rfl
@[simp] theorem accept_clk (i : Instr) (s : State) : (accept i s).clk = s.clk := rfl
@[simp] theorem accept_latch (i : Instr) (s : State) : (accept i s).latch = s.latch := rfl
@[simp] theorem accept_result (i : Instr) (s : State) : (accept i s).result = s.result := rfl
@[simp] theorem accept_edgePrev (i : Instr) (s : State) : (accept i s).edgePrev = s.edgePrev := rfl
@[simp] theorem accept_rspValid (i : Instr) (s : State) : (accept i s).rspValid = false := rfl
@[simp] theorem accept_seq (i : Instr) (s : State) : (accept i s).seq = some (startOf s.params i) := rfl
@[simp] theorem accept_colSync (i : Instr) (s : State) : (accept i s).colSync = (clock s).colSync := rfl
@[simp] theorem accept_chain (i : Instr) (s : State) : (accept i s).chain = s.chain := rfl
@[simp] theorem accept_latched (i : Instr) (s : State) : (accept i s).latched = s.latched := rfl
@[simp] theorem accept_written (i : Instr) (s : State) : (accept i s).written = s.written := rfl
@[simp] theorem accept_switches (i : Instr) (s : State) : (accept i s).switches = freeSwitches s := rfl
@[simp] theorem accept_keypad (i : Instr) (s : State) : (accept i s).keypad = s.keypad := rfl
@[simp] theorem accept_draws (i : Instr) (s : State) : (accept i s).draws = s.draws := rfl
@[simp] theorem accept_clocks (i : Instr) (s : State) : (accept i s).clocks = s.clocks + 1 := rfl
@[simp] theorem accept_host (i : Instr) (s : State) : (accept i s).host = s.host := rfl
@[simp] theorem accept_responses (i : Instr) (s : State) : (accept i s).responses = s.responses := rfl
@[simp] theorem accept_trace (i : Instr) (s : State) : (accept i s).trace = s.trace := rfl
@[simp] theorem accept_params (i : Instr) (s : State) : (accept i s).params = s.params := rfl

/-! applyReset -/

@[simp] theorem applyReset_rowOut (s : State) : (applyReset s).rowOut = 0#4 := rfl
@[simp] theorem applyReset_data (s : State) : (applyReset s).data = false := rfl
@[simp] theorem applyReset_clk (s : State) : (applyReset s).clk = false := rfl
@[simp] theorem applyReset_latch (s : State) : (applyReset s).latch = false := rfl
@[simp] theorem applyReset_result (s : State) : (applyReset s).result = 0#16 := rfl
@[simp] theorem applyReset_edgePrev (s : State) : (applyReset s).edgePrev = none := rfl
@[simp] theorem applyReset_rspValid (s : State) : (applyReset s).rspValid = false := rfl
@[simp] theorem applyReset_seq (s : State) : (applyReset s).seq = none := rfl
@[simp] theorem applyReset_colSync (s : State) : (applyReset s).colSync = Config.freeSync s.clocks := rfl
@[simp] theorem applyReset_written (s : State) : (applyReset s).written = (s.written || latchDriven s) := rfl
@[simp] theorem applyReset_switches (s : State) : (applyReset s).switches = freeSwitches s := rfl
@[simp] theorem applyReset_keypad (s : State) : (applyReset s).keypad = s.keypad := rfl
@[simp] theorem applyReset_draws (s : State) : (applyReset s).draws = s.draws := rfl
@[simp] theorem applyReset_clocks (s : State) : (applyReset s).clocks = s.clocks + 1 := rfl
@[simp] theorem applyReset_host (s : State) : (applyReset s).host = s.host := rfl
@[simp] theorem applyReset_responses (s : State) : (applyReset s).responses = s.responses := rfl
@[simp] theorem applyReset_trace (s : State) : (applyReset s).trace = s.trace ++ [.driveRows 0#4] ++ [.drive .data false] ++ [.drive .clk false] ++ [.drive .latch false] := rfl
@[simp] theorem applyReset_params (s : State) : (applyReset s).params = s.params := rfl

end Sys2Proof.Laws
end

