-- ==== Sys2Proof/Laws/Ops.lean ====
section
/-! SUPPORT. What each shared operation can do, said once: the keypad agent's moments under a sample, the external
register under a drive, one bit and the latch pulse, and what a scan and a write leave alone. -/

namespace Sys2Proof.Laws

open Sys2Proof.Machine

/-! The keypad agent. -/

theorem upcoming_clock (s : State) (j : Nat) : upcoming (clock s) j = upcoming s j := rfl

theorem upcoming_driveRows (v : Nibble) (s : State) (j : Nat) : upcoming (driveRows v s) j = upcoming s j := rfl

theorem upcoming_settleTick (left : Nat) (s : State) (j : Nat) : upcoming (settleTick left s) j = upcoming s j := by
  simp [upcoming]

theorem upcoming_visitRow (r : Fin nRows) (s : State) (j : Nat) : upcoming (visitRow r s) j = upcoming s j := by
  simp [upcoming]

/-- A sample uses up one moment. -/
theorem upcoming_afterSample (s : State) (j : Nat) : upcoming (afterSample s) j = upcoming s (j + 1) := by
  cases h : s.keypad with
  | nil => simp [upcoming, h]; congr 1; omega
  | cons m ms => simp [upcoming, h]

/-! The column synchroniser (R32). -/

/-- What the row that settles answers does not depend on the ticks that have passed. -/
theorem keypadAnswer_clock (s : State) : keypadAnswer (clock s) = keypadAnswer s := rfl

theorem settleTick_capture (s : State) : settleTick syncStages s = captureClock s := rfl

theorem settleTick_other {left : Nat} (h : left ≠ syncStages) (s : State) : settleTick left s = clock s := by
  simp [settleTick, h]

/-- After a settle time of as many ticks as there are stages, or more, the last stage holds the answer to the row
(R32, R142). -/
theorem passTicks_settle_colSync (k : Nat) (s : State) :
    (passTicks settleTick (k + syncStages) s).colSync[1] = keypadAnswer s := by
  induction k generalizing s with
  | zero => rfl
  | succ k ih =>
    have hp : passTicks settleTick (k + 1 + syncStages) s = passTicks settleTick (k + syncStages) (clock s) := by
      rw [Nat.add_right_comm, passTicks, settleTick_other (by omega)]
    rw [hp, ih, keypadAnswer_clock]

/-- A row that settles as long as R142 asks is sampled right: the sample is the keypad's answer to that row. -/
theorem columnSample_visitRow {s : State} (h : syncStages ≤ s.params.settleTicks) (r : Fin nRows) :
    columnSample (visitRow r s) = sampleOf s.params.keypadEnv (onehot4 r) (upcoming s 0) := by
  obtain ⟨k, hk⟩ : ∃ k, s.params.settleTicks = k + syncStages := ⟨s.params.settleTicks - syncStages, by omega⟩
  rw [columnSample, visitRow, settleFor_colSync, hk]
  exact passTicks_settle_colSync k (driveRows (onehot4 r) s)

/-! What a hold and a visited row can do, as whole states. -/

/-- What every tick of a hold does: it passes the columns on, and leaves everything but the synchroniser, the switches
and the tick counter. -/
def OnlyTheKeypad (tickAt : Nat → State → State) : Prop :=
  ∀ left s, tickAt left s =
    { s with colSync := (tickAt left s).colSync, switches := (tickAt left s).switches, clocks := s.clocks + 1 }

theorem clock_onlyTheKeypad : OnlyTheKeypad (fun _ => clock) := fun _ _ => rfl

theorem settleTick_onlyTheKeypad : OnlyTheKeypad settleTick := by
  intro left s
  apply State.ext <;> simp

/-- What every tick does, all of them do. -/
theorem passTicks_eq {tickAt : Nat → State → State} (h : OnlyTheKeypad tickAt) (n : Nat) (s : State) :
    passTicks tickAt n s =
      { s with colSync := (passTicks tickAt n s).colSync, switches := (passTicks tickAt n s).switches,
               clocks := s.clocks + n } := by
  induction n generalizing s with
  | zero => rfl
  | succ n ih =>
    have hu := h (n + 1) s
    have hv := ih (tickAt (n + 1) s)
    simp only [passTicks]
    generalize tickAt (n + 1) s = u at hu hv ⊢
    generalize passTicks tickAt n u = v at hv ⊢
    rw [State.ext_iff] at hu hv ⊢
    simp only [true_and] at hu hv ⊢
    simp_all
    omega

/-- A hold is its ticks, one after the other, and its event. -/
theorem waitFor_eq_ticks {tickAt : Nat → State → State} (h : OnlyTheKeypad tickAt) (n : Nat) (s : State) :
    waitFor tickAt n s = State.logEvent (.hold n) (passTicks tickAt n s) := by
  rw [passTicks_eq h]
  rfl

/-- One row of a poll (R141 to R143), when the row settles as long as R142 asks: the row is driven, the sample is the
keypad's answer to it, the switches are those the sample read, one moment of the keypad agent is used up, and nothing
else changes but the synchroniser and the tick counter. -/
theorem afterSample_visitRow_eq {s : State} (h : syncStages ≤ s.params.settleTicks) (r : Fin nRows) :
    afterSample (visitRow r s) =
      { s with
        rowOut := onehot4 r
        colSync := (afterSample (visitRow r s)).colSync
        clocks := s.clocks + 1 + s.params.settleTicks + 1
        switches := (upcoming s 0).switches
        keypad := s.keypad.drop 1
        draws := if s.keypad.isEmpty then s.draws + 1 else s.draws
        trace := s.trace ++ [.driveRows (onehot4 r), .hold s.params.settleTicks,
          .sample (sampleOf s.params.keypadEnv (onehot4 r) (upcoming s 0))] } := by
  apply State.ext <;> simp [columnSample_visitRow h, upcoming_visitRow]

/-! The external register. -/

theorem keptContents_follows {p : Params} (h : p.registerFollows = true) (c : Stages) : keptContents p c = c := by
  simp [keptContents, h]

theorem keptContents_faulty {p : Params} (h : p.registerFollows = false) (c : Stages) :
    keptContents p c = Stages.unknown := by
  simp [keptContents, h]

theorem chainAfterClk_rise {p : Params} (h : p.registerFollows = true) (d : Bool) (c : Stages) :
    chainAfterClk p false true d c = shiftIn c d := by
  simp [chainAfterClk, h, rises]

theorem chainAfterClk_low {p : Params} (h : p.registerFollows = true) (before d : Bool) (c : Stages) :
    chainAfterClk p before false d c = c := by
  simp [chainAfterClk, h, rises]

theorem chainAfterClk_faulty {p : Params} (h : p.registerFollows = false) (before after d : Bool) (c : Stages) :
    chainAfterClk p before after d c = Stages.unknown := by
  simp [chainAfterClk, h]

theorem qAfterLatch_faulty {p : Params} (h : p.registerFollows = false) (before after : Bool) (c old : Stages) :
    qAfterLatch p before after c old = Stages.unknown := by
  simp [qAfterLatch, h]

/-- A rise and a fall of the latch line transfer the chain, whichever edge is active (R213). -/
theorem qAfterLatch_pulse {p : Params} (h : p.registerFollows = true) (c old : Stages) :
    qAfterLatch p true false c (qAfterLatch p false true c old) = c := by
  cases he : p.latchEdge <;> simp [qAfterLatch, h, he, latchActive, rises, falls]

/-! One bit. -/

theorem shiftBit_params (b : Image) (i : Fin imgWidth) (s : State) : (shiftBit b i s).params = s.params := by
  simp [shiftBit]

theorem shiftBit_clk (b : Image) (i : Fin imgWidth) (s : State) : (shiftBit b i s).clk = false := by
  simp [shiftBit]

theorem shiftBit_data (b : Image) (i : Fin imgWidth) (s : State) : (shiftBit b i s).data = imageElement b i := by
  simp [shiftBit]

/-- One bit shifts its element into the chain (R201, R212). -/
theorem shiftBit_chain {s : State} (hclk : s.clk = false) (h : s.params.registerFollows = true) (b : Image)
    (i : Fin imgWidth) : (shiftBit b i s).chain = shiftIn s.chain (imageElement b i) := by
  simp [shiftBit, hclk, chainAfterClk_rise, chainAfterClk_low, keptContents, h]

theorem shiftBit_latched {s : State} (h : s.params.registerFollows = true) (b : Image) (i : Fin imgWidth) :
    (shiftBit b i s).latched = s.latched := by
  simp [shiftBit, keptContents, h]

/-- Eight shifts of an image leave its bits in the order they were shifted, whatever the chain held (R211). -/
theorem eight_shifts (old : Stages) (a b c d e f g h : Bool) :
    shiftIn (shiftIn (shiftIn (shiftIn (shiftIn (shiftIn (shiftIn (shiftIn old a) b) c) d) e) f) g) h =
      #v[some h, some g, some f, some e, some d, some c, some b, some a] := rfl

/-! Reset. -/

/-- Reset does not touch the chain of a register that follows R212 (R272): a clock line forced low is a falling edge. -/
theorem applyReset_chain {s : State} (h : s.params.registerFollows = true) : (applyReset s).chain = s.chain := by
  simp [applyReset, keptContents, chainAfterClk_low, h]

/-- Reset transfers the chain to the outputs exactly when it makes a falling latch edge that is the active one (R271,
R272). -/
theorem applyReset_latched {s : State} (h : s.params.registerFollows = true) :
    (applyReset s).latched = if s.params.latchEdge = .falling ∧ s.latch = true then s.chain else s.latched := by
  cases he : s.params.latchEdge <;> cases hl : s.latch <;>
    simp [applyReset, keptContents, chainAfterClk_low, qAfterLatch, latchActive, rises, falls, h, he, hl]

/-! A scan's frame. -/

/-- What a scan leaves alone: the driver, the external register, the detector, the result, the host and the
parameters (R76, R150). -/
theorem scanRows_frame (rows : List (Fin nRows)) (s : State) :
    (scanRows rows s).2.data = s.data ∧ (scanRows rows s).2.clk = s.clk ∧ (scanRows rows s).2.latch = s.latch ∧
    (scanRows rows s).2.chain = s.chain ∧ (scanRows rows s).2.latched = s.latched ∧ (scanRows rows s).2.written = s.written ∧
    (scanRows rows s).2.edgePrev = s.edgePrev ∧
    (scanRows rows s).2.result = s.result ∧ (scanRows rows s).2.host = s.host ∧
    (scanRows rows s).2.responses = s.responses ∧ (scanRows rows s).2.seq = s.seq ∧
    (scanRows rows s).2.rspValid = s.rspValid ∧ (scanRows rows s).2.params = s.params := by
  induction rows generalizing s with
  | nil => simp [scanRows]
  | cons r rows ih =>
    simp only [scanRows]
    split
    · simp
    · simpa using ih (afterSample (visitRow r s))

/-- A scan ends with every row low (R147). -/
theorem scanRows_rowOut (rows : List (Fin nRows)) (s : State) : (scanRows rows s).2.rowOut = 0#4 := by
  induction rows generalizing s with
  | nil => rfl
  | cons r rows ih =>
    simp only [scanRows]
    split
    · rfl
    · exact ih _

/-! The shift sequence's frame. -/

theorem shiftBits_params (b : Image) (order : List (Fin imgWidth)) (s : State) :
    (shiftBits b order s).params = s.params := by
  induction order generalizing s with
  | nil => rfl
  | cons i order ih => exact (ih (shiftBit b i s)).trans (shiftBit_params b i s)

theorem shiftBits_nil (b : Image) (s : State) : shiftBits b [] s = s := rfl

theorem shiftBits_cons (b : Image) (i : Fin imgWidth) (order : List (Fin imgWidth)) (s : State) :
    shiftBits b (i :: order) s = shiftBits b order (shiftBit b i s) := rfl

end Sys2Proof.Laws
end

