-- ==== Sys2Proof/Laws/PerInstr.lean ====
section
/-! SUPPORT. Statements about every command as syntax, one lemma per constructor of `Instr`: the family
`EncodesToLegalWord` (30_encoding.md R105: no command's word is reserved). -/

namespace Sys2Proof.Laws.EncodesToLegalWord

/-- The command's word is not reserved (R105). -/
def Statement (i : Instr) : Prop := reservedWord (encode i) = false

theorem poll : Statement .poll := by unfold Statement; decide

theorem pollE : Statement .pollE := by unfold Statement; decide

theorem edgeNone : Statement .edgeNone := by unfold Statement; decide

theorem edge (k : Key) : Statement (.edge k) := by unfold Statement; cases k <;> decide

theorem writeArray (b : Image) : Statement (.writeArray b) := by unfold Statement; revert b; decide

end Sys2Proof.Laws.EncodesToLegalWord
end

