-- ==== Sys2Proof/Laws/Sequencer.lean ====
section
/-! SUPPORT. The sequencer tick by tick: ticks compose, a hold of `n` ticks takes `n` ticks, what each kind of tick is,
and the cases of a step. -/

namespace Sys2Proof.Laws

open Sys2Proof.Machine

theorem runTicks_add (m n : Nat) (s : State) : runTicks (m + n) s = runTicks n (runTicks m s) := by
  induction m generalizing s with
  | zero => simp [runTicks]
  | succ m ih => rw [Nat.succ_add]; exact ih (runTick s)

theorem runTick_busy {s : State} {q : Sequencer} (h : s.seq = some q) :
    runTick s = seqTick q { s with rspValid := false } := by
  simp [runTick, h]

theorem runTick_idle {s : State} (h : s.seq = none) : runTick s = { clock s with rspValid := false } := by
  simp [runTick, h]

theorem holdTick_last {tickAt : Nat → State → State} {n : Nat} {after : Phase} {q : Sequencer} (s : State)
    (h : q.hold ≤ 1) :
    holdTick tickAt n after q s =
      State.setSeq { q with phase := after, hold := 0 } (State.logEvent (.hold n) (tickAt q.hold s)) := by
  simp [holdTick, h]

theorem holdTick_counts {tickAt : Nat → State → State} {n : Nat} {after : Phase} {q : Sequencer} (s : State)
    (h : 1 < q.hold) :
    holdTick tickAt n after q s = State.setSeq { q with hold := q.hold - 1 } (tickAt q.hold s) := by
  simp [holdTick, Nat.not_le.mpr h]

/-- Setting the fields that are there changes nothing. -/
theorem setSeq_self {q : Sequencer} {s : State} (h : s.seq = some q) : State.setSeq q s = s := by
  simp [State.setSeq, ← h]

theorem rspValid_self {s : State} (h : s.rspValid = false) : { s with rspValid := false } = s := by
  simp [← h]

/-- What the ticks of a hold do to the state: they leave the pulse and the parameters, and the sequencer's fields do not
matter to them. -/
structure Passes (tickAt : Nat → State → State) : Prop where
  rspValid : ∀ left s, (tickAt left s).rspValid = s.rspValid
  params   : ∀ left s, (tickAt left s).params = s.params
  setSeq   : ∀ left q s, tickAt left (State.setSeq q s) = State.setSeq q (tickAt left s)

theorem clock_passes : Passes (fun _ => clock) := ⟨fun _ _ => rfl, fun _ _ => rfl, fun _ _ _ => rfl⟩

theorem settleTick_passes : Passes settleTick where
  rspValid := settleTick_rspValid
  params := settleTick_params
  setSeq left q s := by unfold settleTick; split <;> rfl

theorem setSeq_setSeq (q r : Sequencer) (s : State) : State.setSeq q (State.setSeq r s) = State.setSeq q s := rfl

/-- The ticks of a hold, up to and with its last one, from a state in which its counter stands at `k + 1`: the hold's
ticks pass, and the last one's own effect is left to say. -/
theorem runTicks_hold {p : Params} {ph : Phase} {tickAt : Nat → State → State} (hps : Passes tickAt)
    (hcount : ∀ (q : Sequencer) (u : State), q.phase = ph → u.params = p → 1 < q.hold →
      seqTick q u = State.setSeq { q with hold := q.hold - 1 } (tickAt q.hold u))
    {next : Sequencer → Sequencer} {e : LineEvent}
    (hlast : ∀ (q : Sequencer) (u : State), q.phase = ph → u.params = p → q.hold = 1 →
      seqTick q u = State.setSeq (next q) (State.logEvent e (tickAt 1 u)))
    (k : Nat) : ∀ (q : Sequencer) (t : State), q.phase = ph → t.params = p → t.rspValid = false → q.hold = k + 1 →
      runTicks (k + 1) (State.setSeq q t) =
        State.setSeq (next { q with hold := 1 }) (State.logEvent e (passTicks tickAt (k + 1) t)) := by
  induction k with
  | zero =>
    intro q t hq hp hr hh
    show runTick (State.setSeq q t) = _
    rw [runTick_busy (s := State.setSeq q t) rfl, rspValid_self (s := State.setSeq q t) hr,
      hlast q (State.setSeq q t) hq hp hh, hps.setSeq]
    have hq1 : q = { q with hold := 1 } := by cases q; simp_all
    rw [← hq1]
    rfl
  | succ k ih =>
    intro q t hq hp hr hh
    have h1 : runTick (State.setSeq q t) = State.setSeq { q with hold := k + 1 } (tickAt (k + 1 + 1) t) := by
      rw [runTick_busy (s := State.setSeq q t) rfl, rspValid_self (s := State.setSeq q t) hr,
        hcount q (State.setSeq q t) hq hp (by omega), hps.setSeq, hh]
      rfl
    show runTicks (k + 1) (runTick (State.setSeq q t)) = _
    rw [h1, ih { q with hold := k + 1 } (tickAt (k + 1 + 1) t) hq ((hps.params _ t).trans hp)
      ((hps.rspValid _ t).trans hr) rfl]
    rfl

/-- A drive and the hold after it, up to and with the hold's last tick (R203). -/
theorem runTicks_driveWait {ph : Phase} {n : Nat} {tickAt : Nat → State → State} (hps : Passes tickAt)
    (hok : OnlyTheKeypad tickAt) {q : Sequencer} {s t : State} (hs : s.seq = some q) (hr : s.rspValid = false)
    (hstart : seqTick q s = State.setSeq { q with phase := ph, hold := n } t)
    (htp : t.params = s.params) (htr : t.rspValid = false) (h1 : 1 ≤ n)
    (hcount : ∀ (q : Sequencer) (u : State), q.phase = ph → u.params = s.params → 1 < q.hold →
      seqTick q u = State.setSeq { q with hold := q.hold - 1 } (tickAt q.hold u))
    {next : Sequencer → Sequencer}
    (hlast : ∀ (q : Sequencer) (u : State), q.phase = ph → u.params = s.params → q.hold = 1 →
      seqTick q u = State.setSeq (next q) (State.logEvent (.hold n) (tickAt 1 u))) :
    runTicks (1 + n) s = State.setSeq (next { q with phase := ph, hold := 1 }) (waitFor tickAt n t) := by
  obtain ⟨k, rfl⟩ : ∃ k, n = k + 1 := ⟨n - 1, by omega⟩
  have h2 : runTicks 1 s = State.setSeq { q with phase := ph, hold := k + 1 } t := by
    show runTick s = _
    rw [runTick_busy hs, rspValid_self hr, hstart]
  rw [runTicks_add, h2, runTicks_hold hps hcount hlast k _ t rfl htp htr rfl, waitFor_eq_ticks hok]

/-- The same, when the phase after the hold is fixed. -/
theorem runTicks_driveHold {ph after : Phase} {n : Nat} {tickAt : Nat → State → State} (hps : Passes tickAt)
    (hok : OnlyTheKeypad tickAt) {q : Sequencer} {s t : State} (hs : s.seq = some q) (hr : s.rspValid = false)
    (hstart : seqTick q s = State.setSeq { q with phase := ph, hold := n } t)
    (htp : t.params = s.params) (htr : t.rspValid = false) (h1 : 1 ≤ n)
    (hph : ∀ (q : Sequencer) (u : State), q.phase = ph → u.params = s.params →
      seqTick q u = holdTick tickAt n after q u) :
    runTicks (1 + n) s = State.setSeq { q with phase := after, hold := 0 } (waitFor tickAt n t) :=
  runTicks_driveWait hps hok (next := fun q => { q with phase := after, hold := 0 }) hs hr hstart htp htr h1
    (fun q u hq hp h => by rw [hph q u hq hp, holdTick_counts _ h])
    (fun q u hq hp h => by rw [hph q u hq hp, holdTick_last _ (by omega), h])

/-- The ticks of one bit (R201). -/
theorem runTicks_bit {q : Sequencer} {s : State} (hq : q.phase = .setData) (hs : s.seq = some q)
    (hr : s.rspValid = false) (h1 : 1 ≤ s.params.holdTicks) :
    runTicks (3 * (1 + s.params.holdTicks)) s =
      State.setSeq (afterBit s.params.shiftOrder q) (shiftBit q.img q.bit s) := by
  have e : 3 * (1 + s.params.holdTicks) =
      (1 + s.params.holdTicks) + ((1 + s.params.holdTicks) + (1 + s.params.holdTicks)) := by omega
  have a1 := runTicks_driveHold clock_passes clock_onlyTheKeypad (s := s) (q := q) (ph := .holdData) (after := .clkHigh)
    (n := s.params.holdTicks) (t := driveData (imageElement q.img q.bit) s) hs hr (by simp [seqTick, hq]) rfl hr h1
    (fun q u hq hp => by simp [seqTick, hq, hp])
  have a2 := runTicks_driveHold clock_passes clock_onlyTheKeypad (n := s.params.holdTicks)
    (s := State.setSeq { q with phase := .clkHigh, hold := 0 } (holdLine (driveData (imageElement q.img q.bit) s)))
    (q := { q with phase := .clkHigh, hold := 0 }) (ph := .holdClkHigh) (after := .clkLow)
    (t := driveClk true (holdLine (driveData (imageElement q.img q.bit) s))) rfl hr rfl rfl hr h1
    (fun q u hq hp => by simp [seqTick, hq, hp])
  have a3 := runTicks_driveWait clock_passes clock_onlyTheKeypad (n := s.params.holdTicks)
    (s := State.setSeq { q with phase := .clkLow, hold := 0 }
      (holdLine (driveClk true (holdLine (driveData (imageElement q.img q.bit) s)))))
    (q := { q with phase := .clkLow, hold := 0 }) (ph := .holdClkLow)
    (t := driveClk false (holdLine (driveClk true (holdLine (driveData (imageElement q.img q.bit) s))))) rfl hr rfl rfl
    hr h1 (fun q u hq hp h => by simp [seqTick, hq, bitEndTick, Nat.not_le.mpr h])
    (next := afterBit s.params.shiftOrder)
    (fun q u hq hp h => by simp [seqTick, hq, bitEndTick, h, hp])
  rw [e, runTicks_add, a1, runTicks_add]
  exact (congrArg (runTicks (1 + s.params.holdTicks)) a2).trans (a3.trans (by unfold afterBit; rfl))

/-- The ticks of visiting a row up to its sample (R141, R142). -/
theorem runTicks_visitRow {q : Sequencer} {s : State} (hq : q.phase = .driveRow) (hs : s.seq = some q)
    (hr : s.rspValid = false) (h1 : 1 ≤ s.params.settleTicks) :
    runTicks (1 + s.params.settleTicks) s =
      State.setSeq { q with phase := .sample, hold := 0 } (visitRow q.row s) :=
  runTicks_driveHold settleTick_passes settleTick_onlyTheKeypad (ph := .settle) (t := driveRows (onehot4 q.row) s) hs hr
    (by simp [seqTick, hq]) rfl hr h1 (fun q u hq hp => by simp [seqTick, hq, hp])

/-- What a tick is: reset, an acceptance, a refusal, or the block going on. -/
theorem tick_cases {pins : Pins} {s t : State} (h : tick pins s = .goes t) :
    (pins.rst = true ∧ t = applyReset s) ∨
    (pins.rst = false ∧ s.seq = none ∧ ∃ i, decode pins.cmdWord = .command i ∧ t = accept i s) ∨
    (pins.rst = false ∧ t = runTick s) := by
  unfold tick at h
  split at h
  · cases h; exact .inl ⟨‹_›, rfl⟩
  · rename_i hr
    have hr : pins.rst = false := by simpa using hr
    split at h
    · rename_i ha
      have hs : s.seq = none := by
        have : s.busy = false := by simp [cmdReady] at ha; exact ha.1.1
        simpa [State.busy] using this
      split at h
      · cases h; exact .inr (.inl ⟨hr, hs, _, ‹_›, rfl⟩)
      · cases h
    · cases h; exact .inr (.inr ⟨hr, rfl⟩)

/-- What a step is, when it gives a next state: a command from an idle block, or one tick. -/
theorem step_cases {s t : State} (h : step s = .next t) :
    (∃ w i rest, s.host = .command w :: rest ∧ s.seq = none ∧ decode w = .command i ∧
      exec i { s with host := rest } = .next t) ∨
    (s.host = [] ∧ tick Pins.idle s = .goes t) ∨
    (∃ w rest, s.host = .command w :: rest ∧ s.busy = true ∧ tick (Pins.present w) s = .goes t) ∨
    (∃ pins rest, s.host = .clock pins :: rest ∧ tick pins { s with host := rest } = .goes t) := by
  unfold step fetch at h
  cases hh : s.host with
  | nil =>
    simp only [hh] at h
    cases ht : tick Pins.idle s with
    | goes u => simp only [ht, Fetched.ofTick] at h; cases h; exact .inr (.inl ⟨rfl, rfl⟩)
    | reservedAccepted w => simp [ht, Fetched.ofTick] at h
  | cons m rest =>
    cases m with
    | command w =>
      simp only [hh] at h
      by_cases hb : s.busy = true
      · simp only [hb, if_true] at h
        cases ht : tick (Pins.present w) s with
        | goes u =>
          simp only [ht, Fetched.ofTick] at h; cases h
          exact .inr (.inr (.inl ⟨w, rest, rfl, hb, ht⟩))
        | reservedAccepted v => simp [ht, Fetched.ofTick] at h
      · have hs : s.seq = none := by simpa [State.busy] using hb
        simp only [Bool.not_eq_true] at hb
        simp only [hb] at h
        cases hd : decode w with
        | command i => simp [hd] at h; exact .inl ⟨w, i, rest, rfl, hs, hd, h⟩
        | reserved v => simp [hd] at h
    | clock pins =>
      simp only [hh] at h
      cases ht : tick pins { s with host := rest } with
      | goes u =>
        simp only [ht, Fetched.ofTick] at h; cases h
        exact .inr (.inr (.inr ⟨pins, rest, rfl, ht⟩))
      | reservedAccepted v => simp [ht, Fetched.ofTick] at h
    | platformLoss => simp [hh] at h

end Sys2Proof.Laws
end

