-- ==== Sys2Proof/Tests/Slice0.lean ====
section
/-! SUPPORT. The model's own tests. Expected values come from the spec: the words of 30_encoding.md R102 to R104 and
95_test_vectors.md V1, the vectors of 95_test_vectors.md (named at each test), and R105's and R7's constraints. The
last part holds, for every statement with hypotheses, a concrete state and operands that meet them. -/

namespace Sys2Proof.Tests

open Sys2Proof Sys2Proof.Machine Sys2Proof.Expect

/-! Small states. -/

/-- Parameters that meet every constraint: the default map, `HOLD_TICKS = 1`, `SETTLE_TICKS = 3`. -/
def params (o : ShiftOrder) (e : LatchEdge) (env : KeypadEnv) : Params :=
  { keyRom := Config.defaultKeyRom, shiftOrder := o, latchEdge := e, holdTicks := 1, settleTicks := 3, tTick := 1,
    chipMin := 0, registerSound := true, keypadEnv := env }

/-- The default parameters of 95_test_vectors.md. -/
def defaults : Params := params .desc .rising .any

/-- A keypad moment whose sample is `d` under `ANY`. -/
def seen (d : Nibble) : KeypadMoment := { switches := Vector.replicate nRows 0#4, draw := d, late := 0#4 }

/-- A keypad moment with these switches closed, and contended columns reading 0. -/
def closed (P : Switches) : KeypadMoment := { switches := P, draw := 0#4, late := 0#4 }

/-- After reset, with these parameters, and a keypad that presents these moments. -/
def start (p : Params) (keypad : List KeypadMoment) : State := { State.reset with params := p, keypad := keypad }

/-- A state for write tests: the external register at known levels. -/
def wired (p : Params) (chain q : Image) : State :=
  { start p [] with chain := Stages.ofByte chain, latched := Stages.ofByte q, written := true }

/-- The next state an outcome gives, or the given one. -/
def after (o : Host.Outcome State Fault Refusal) (s : State) : State :=
  match o with
  | .next t => t
  | .fault _ => s
  | .refused _ => s

/-- A state with this host move next. -/
def withMove (m : HostMove) (s : State) : State := { s with host := [m] }

/-- A clock tick with reset. -/
def resetPins : Pins := { rst := true, cmdValid := false, cmdWord := 0#16 }

/-! Decoding: words written out bit by bit from R102, R103 and R104 (95 V1). -/

theorem test_decode_poll : decode 0b0001000000000000#16 = .command .poll := by decide
theorem test_decode_pollE : decode 0b0001000100000000#16 = .command .pollE := by decide
theorem test_decode_edgeNone : decode 0b0010000000000000#16 = .command .edgeNone := by decide
theorem test_decode_edge_five : decode 0b0010000000010101#16 = .command (.edge .five) := by decide
theorem test_decode_edge_hash : decode 0b0010000000011111#16 = .command (.edge .hash) := by decide
theorem test_decode_writeArray_first_element : decode 0b0011000000000001#16 = .command (.writeArray 0x01#8) := by decide
theorem test_decode_writeArray_a5 : decode 0b0011000010100101#16 = .command (.writeArray 0xA5#8) := by decide
theorem test_decode_reserved_op0 : decode 0x0000#16 = .reserved 0x0000#16 := by decide
theorem test_decode_reserved_poll_bit : decode 0x1080#16 = .reserved 0x1080#16 := by decide
theorem test_decode_reserved_edge_bit8 : decode 0x2110#16 = .reserved 0x2110#16 := by decide
theorem test_decode_reserved_write : decode 0x3F00#16 = .reserved 0x3F00#16 := by decide
theorem test_table_word_pollE : decodeTableWord 16 0x1100 = some .pollE := by decide
theorem test_table_word_reserved : decodeTableWord 16 0xFFFF = none := by decide

/-! Well-formedness: for each check a term it refuses. -/

theorem test_wf_opUnassigned : opUnassigned 0x8000#16 = true ∧ reservedWord 0x8000#16 = true := by decide
theorem test_wf_pollMalformed : pollMalformed 0x1E00#16 = true ∧ reservedWord 0x1E00#16 = true := by decide
theorem test_wf_edgeMalformed : edgeMalformed 0x200F#16 = true ∧ reservedWord 0x200F#16 = true := by decide
theorem test_wf_writeMalformed : writeMalformed 0x3100#16 = true ∧ reservedWord 0x3100#16 = true := by decide
theorem test_wf_romInjective : ({ defaults with keyRom := Vector.replicate nKeys 0x5#4 }).wf = false := by decide
theorem test_wf_holdTicks : ({ defaults with holdTicks := 0 }).wf = false := by decide
theorem test_wf_settleTicks : ({ defaults with settleTicks := 2 }).wf = false := by decide
theorem test_wf_tTick : ({ defaults with tTick := 0 }).wf = false := by decide
theorem test_wf_accepts_defaults : defaults.wf = true ∧ defaults.registerFollows = true := by decide

/-! `POLL` (95 V2): samples `0000, 0000, 1001` give `Seven`; samples `0000, 0000, 0000, 0010` give `Zero`. -/

theorem test_poll_seven :
    (after (exec .poll (start defaults [seen 0, seen 0, seen 9])) State.reset).result = 0x0017#16 := by decide
theorem test_poll_zero_trace :
    ((after (exec .poll (start defaults [seen 0, seen 0, seen 0, seen 2])) State.reset).trace.filter
      (fun e => match e with | .driveRows _ => true | _ => false),
     (after (exec .poll (start defaults [seen 0, seen 0, seen 0, seen 2])) State.reset).result) =
    ([.driveRows 0b0001, .driveRows 0b0010, .driveRows 0b0100, .driveRows 0b1000, .driveRows 0b0000], 0x0010#16) := by
  decide

/-! `POLL` under `IDEAL` (95 V2): (0,0), (0,1), (1,0) closed and the contended columns at 0 in row 0 and `0010` in row 1
give the ghost key `Five`. -/

/-- The three switches of 95 V2's last corner case. -/
def ghost (d : Nibble) : KeypadMoment := { switches := #v[0b0011, 0b0001, 0, 0], draw := d, late := 0 }

theorem test_poll_ideal_ghost :
    (after (exec .poll (start (params .desc .rising .ideal) [ghost 0b1100, ghost 0b0010])) State.reset).result =
      0x0015#16 := by decide

/-! `POLL.E` (95 V3): `Some Two` then `One` gives `0x1111`; a held `Hash` gives `0x001F`. -/

theorem test_pollE_fires :
    (after (exec .pollE { start defaults [seen 1] with edgePrev := some .two }) State.reset).result = 0x1111#16 ∧
    (after (exec .pollE { start defaults [seen 1] with edgePrev := some .two }) State.reset).edgePrev = some .one := by
  decide
theorem test_pollE_suppresses :
    (after (exec .pollE { start defaults [seen 0, seen 0, seen 0, seen 4] with edgePrev := some .hash })
      State.reset).result = 0x001F#16 := by decide

/-! `EDGE` (95 V4). -/

theorem test_edgeNone_clears :
    (after (exec .edgeNone { start defaults [] with edgePrev := some .six, result := 0x1616 }) State.reset).edgePrev =
      none ∧
    (after (exec .edgeNone { start defaults [] with edgePrev := some .six, result := 0x1616 }) State.reset).result =
      0x0000#16 := by decide
theorem test_edge_other_key_fires :
    (after (exec (.edge .star) { start defaults [] with edgePrev := some .hash }) State.reset).result = 0x1E00#16 := by
  decide
theorem test_edge_zero_fires :
    (after (exec (.edge .zero) (start defaults [])) State.reset).result = 0x1000#16 := by decide

/-! `WRITE_ARRAY` (95 V5): `0x3013`, `Q = 0x13` and `DATA = 1` under `DESC`; `Q = 0xC8` and `DATA = 0` under `ASC`. -/

theorem test_write_desc :
    (after (exec (.writeArray 0x13) (wired defaults 0xFF 0x5A)) State.reset).q = Stages.ofByte 0x13#8 ∧
    (after (exec (.writeArray 0x13) (wired defaults 0xFF 0x5A)) State.reset).data = true := by decide
theorem test_write_asc_falling :
    (after (exec (.writeArray 0x13) (wired (params .asc .falling .any) 0xFF 0x5A)) State.reset).q =
      Stages.ofByte 0xC8#8 ∧
    (after (exec (.writeArray 0x13) (wired (params .asc .falling .any) 0xFF 0x5A)) State.reset).data = false := by decide

/-! The chain after each shift of `0x3013` under `DESC` and `ASC` (95 V5): the fifth is `02`, and `19`. -/

theorem test_chain_after_five_shifts :
    (shiftBits 0x13 ((shiftOrder .desc).take 5) (wired defaults 0x00 0x00)).chain = Stages.ofByte 0x02#8 ∧
    (shiftBits 0x13 ((shiftOrder .asc).take 5) (wired defaults 0x00 0x00)).chain = Stages.ofByte 0x19#8 := by decide

/-! Reset (95 V6): a write of `0xFF` cut after 3 rising edges of the clock leaves `CHAIN = 0x07` and `Q = 0x00`; cut
while `LATCH = 1` under a falling latch edge it leaves `Q = 0xFF`. With `HOLD_TICKS = 1` the third rise is in tick 15
and `Drive(LATCH, 1)` in tick 49. -/

theorem test_reset_mid_write :
    (applyReset (writing 0xFF 15 (wired defaults 0x00 0x00))).chain = Stages.ofByte 0x07#8 ∧
    (applyReset (writing 0xFF 15 (wired defaults 0x00 0x00))).q = Stages.ofByte 0x00#8 := by decide
theorem test_reset_forces_falling_latch :
    (writing 0xFF 49 (wired (params .desc .falling .any) 0x00 0x00)).q = Stages.ofByte 0x00#8 ∧
    (applyReset (writing 0xFF 49 (wired (params .desc .falling .any) 0x00 0x00))).q = Stages.ofByte 0xFF#8 := by decide

/-! The first write after power-up (R272, X13, and R271 for a cut one): with `HOLD_TICKS = 1` the latch line rises in tick
49 and the response is in tick 53. -/

theorem test_first_write_shows_at_its_response :
    (writing 0xFF 52 (start defaults [])).q = Stages.unknown ∧
    (writing 0xFF 53 (start defaults [])).q = Stages.ofByte 0xFF#8 := by decide
theorem test_first_write_cut_after_the_latch :
    (applyReset (writing 0xFF 48 (start defaults []))).q = Stages.unknown ∧
    (applyReset (writing 0xFF 49 (start defaults []))).q = Stages.ofByte 0xFF#8 := by decide

/-! Tick counts (R285, 95 V2 and V5): with `S = 3` a poll that ends at row 0 takes 7 ticks; with `H = 1` a write takes 53. -/

theorem test_poll_ticks :
    (runTicks 6 (accept .poll (start defaults [seen 1]))).busy = true ∧
    (runTicks 7 (accept .poll (start defaults [seen 1]))).busy = false ∧
    (runTicks 7 (accept .poll (start defaults [seen 1]))).result = 0x0011#16 := by decide
theorem test_write_ticks :
    (writing 0x01 52 (start defaults [])).busy = true ∧ (writing 0x01 53 (start defaults [])).busy = false := by decide

/-! One step: a word placed for the fetch runs, a reserved word is refused under its own word (95 V7), a host with no
move leaves an idle block idle, and a lost platform stops the machine (93 X22). -/

theorem test_step_runs_placed_word :
    (after (step (State.withFetchWord (start defaults []) 16 0x2011)) State.reset).edgePrev = some .one := by decide
theorem test_step_refuses_reserved :
    step (State.withFetchWord State.reset 16 0x4000) = .refused (.reservedCommand 0x4000#16) := rfl
theorem test_step_without_a_move : (after (step (start defaults [])) State.reset).seq = none := by decide
theorem test_step_platform_lost : step (withMove .platformLoss State.reset) = .fault .platformLost := rfl

/-! The column synchroniser (R32): two flip-flops, whose old values move on in an idle tick too; a row's answer stands
behind them after two ticks of settling and not after one. -/

theorem test_columns_move_on_by_one_stage :
    (runTick { start defaults [] with colSync := #v[0x5, 0x9] }).colSync[1] = 0x5#4 := by decide
theorem test_columns_take_two_ticks :
    columnSample (settleFor 1 { start defaults [seen 8] with colSync := #v[0x5, 0x9] }) = 0x5#4 ∧
    columnSample (settleFor 2 { start defaults [seen 8] with colSync := #v[0x5, 0x9] }) = 0x8#4 := by decide

/-! The host's word waits while a command runs (R45), and reset wins over it (R245). -/

theorem test_busy_host_waits :
    (after (step (withMove (.command 0x1000) (accept (.writeArray 0x01) (start defaults [])))) State.reset).host =
      [.command 0x1000] := by decide
theorem test_reset_tick_clears_detector :
    (after (step (withMove (.clock resetPins) { start defaults [] with edgePrev := some .six, result := 0x1616 }))
      State.reset).edgePrev = none := by decide

/-! The assembler (R110, R111). -/

theorem test_asm_array : assembleText "WRITE_ARRAY [1,0,0,0,0,0,0,0] ; first".toList = .word 0x3001#16 := by decide
theorem test_asm_edge_key : assembleText "EDGE Five".toList = .word 0x2015#16 := by decide
theorem test_asm_edge_none : assembleText "EDGE NONE".toList = .word 0x2000#16 := by decide
theorem test_asm_pollE_comment : assembleText "POLL.E        ; 0x1100".toList = .word 0x1100#16 := by decide
theorem test_asm_out_set : assembleText "OUT.SET".toList = .word 0x30FF#16 := by decide
theorem test_asm_hex : assembleText "WRITE_ARRAY 0x0A".toList = .word 0x300A#16 := by decide
theorem test_asm_raw : assembleText ".word 0x4000".toList = .word 0x4000#16 := by decide
theorem test_asm_case_sensitive : assembleText "poll".toList = .malformed := by decide
theorem test_asm_blank : assembleText "  ; nothing".toList = .blank := by decide

/-! Witnesses: for every statement with hypotheses, a concrete state and operands that meet them all. -/

theorem witness_ReservedWordsAreThoseOfTheRule :
    reservedWord 0x3100#16 = true ∧ (withMove (.command 0x3100) (start defaults [])).seq = none ∧
    (withMove (.command 0x3100) (start defaults [])).host = .command 0x3100 :: [] ∧
    decode 0x3100#16 = .reserved 0x3100#16 := by decide

theorem witness_OpcodeRowsSelectTheCommand :
    decode 0x201F#16 = .command (.edge .hash) ∧ reservedWord 0x2001#16 = true := by decide

theorem witness_EdgeResultAndFrame : (0xF#4 : Nibble) ≠ 0#4 := by decide

/-- Two keypads, one active in two columns of row 2, one open. -/
theorem witness_ScanFindsFirstActivePosition :
    Settles (start defaults [seen 0, seen 0, seen 0xA]) ∧
    (scan (start defaults [seen 0, seen 0, seen 0xA])).1 = some (2, 1) ∧
    (scan (start defaults [seen 0, seen 0, seen 0, seen 0])).1 = none := ⟨by unfold Settles; decide, by decide, by decide⟩

/-- Under `IDEAL` a tick of an idle block and one that captures a row's answer, a block about to sample, and a block whose
rows settle. -/
theorem witness_ColumnsPassTheSynchroniser :
    Pins.idle.rst = false ∧ (start (params .desc .rising .ideal) []).params.keypadEnv = .ideal ∧
    (∃ t, tick Pins.idle (start (params .desc .rising .ideal) []) = .goes t) ∧
    ((runTicks 2 (accept .poll (start (params .desc .rising .ideal) []))).seq.map (fun q => (q.phase, q.hold))) =
      some (.settle, syncStages) ∧
    ((runTicks 4 (accept .poll (start defaults [seen 1]))).seq.map Sequencer.phase) = some .sample ∧
    Settles (start defaults [seen 1]) := ⟨rfl, rfl, ⟨_, rfl⟩, by decide, by decide, by unfold Settles; decide⟩

theorem witness_PollReportsTheRawKey : Settles (start defaults [seen 1]) := by unfold Settles; decide

theorem witness_PollEReportsTheKeyAndTheFire : Settles (start defaults [seen 1]) := witness_PollReportsTheRawKey

theorem witness_PollResultAndFrame : Settles (start defaults [seen 1]) := witness_PollReportsTheRawKey

theorem witness_PollEResultAndFrame : Settles (start defaults [seen 1]) := witness_PollReportsTheRawKey

theorem witness_PollEEqualsPollThenEdge : Settles (start defaults [seen 1]) := witness_PollReportsTheRawKey

theorem witness_PollTraceShape_found :
    Settles (start defaults [seen 0, seen 0, seen 0, seen 8]) ∧
    found (start defaults [seen 0, seen 0, seen 0, seen 8]) = some (3, 3) := ⟨by unfold Settles; decide, by decide⟩

theorem witness_PollTraceShape_nothing :
    Settles (start defaults [seen 0, seen 0, seen 0, seen 0]) ∧
    found (start defaults [seen 0, seen 0, seen 0, seen 0]) = none := ⟨by unfold Settles; decide, by decide⟩

/-- A state that differs from `start defaults [seen 0, seen 4, seen 0, seen 0]` in its registers, its keypad agent and
every parameter but the key-code ROM, and whose rows are sampled alike. -/
def otherwise : State :=
  { start { params .asc .falling .ideal with settleTicks := 9, holdTicks := 2 }
      (List.replicate 4 (closed #v[0, 0b0100, 0, 0])) with edgePrev := some .three, rowOut := 8, draws := 7 }

theorem witness_PollDependsOnSamplesOnly :
    Settles (start defaults [seen 0, seen 4, seen 0, seen 0]) ∧ Settles otherwise ∧
    (start defaults [seen 0, seen 4, seen 0, seen 0]).params.keyRom = otherwise.params.keyRom ∧
    ∀ r, rowSample (start defaults [seen 0, seen 4, seen 0, seen 0]) r = rowSample otherwise r :=
  ⟨by unfold Settles; decide, by unfold Settles; decide, by decide, by decide⟩

theorem witness_PollReportsTheActivePosition_settles : Settles (start defaults [seen 0, seen 0, seen 0, seen 8]) := by
  unfold Settles; decide

theorem witness_PollReportsTheActivePosition_one :
    (start defaults [seen 0, seen 0, seen 0, seen 8]).params.romInjective = true ∧
    rowSample (start defaults [seen 0, seen 0, seen 0, seen 8]) 3 = onehot4 3 ∧
    ∀ j, j ≠ 3 → rowSample (start defaults [seen 0, seen 0, seen 0, seen 8]) j = 0#4 := by decide

theorem witness_PollReportsTheActivePosition_none :
    ∀ j, rowSample (start defaults [seen 0, seen 0, seen 0, seen 0]) j = 0#4 := by decide

theorem witness_PollReportsTheActivePosition_two :
    (0 : Fin nRows) < 3 ∧ rowSample (start defaults [seen 8, seen 0, seen 0, seen 1]) 0 = onehot4 3 ∧
    rowSample (start defaults [seen 8, seen 0, seen 0, seen 1]) 3 = onehot4 0 ∧
    ∀ j, j ≠ 0 → j ≠ 3 → rowSample (start defaults [seen 8, seen 0, seen 0, seen 1]) j = 0#4 := by decide

/-- With no switch closed no row is joined to a column. -/
theorem no_row_joined (k : Fin nCols) (r : Fin nRows) : ¬ Joined (Vector.replicate nRows 0#4) k r := by
  have none_closed : ∀ (r : Fin nRows) (j : Fin nCols),
      ¬ (Vector.replicate nRows 0#4 : Switches)[r].getLsbD j.val = true := by decide
  intro h
  cases h with
  | direct r h => exact none_closed r k h
  | through r r' j _ h => exact none_closed r j h

theorem witness_IdealSampleFollowsTheGraph_open : ∀ r, ¬ Joined (Vector.replicate nRows 0#4) 3 r := no_row_joined 3

/-- With one switch closed, at (3, 3), only its row is joined to its column. -/
theorem witness_IdealSampleFollowsTheGraph_single : ∀ r, Joined #v[0#4, 0#4, 0#4, 0b1000#4] 3 r ↔ r = 3 := by
  have only_row_three : ∀ (r : Fin nRows) (j : Fin nCols),
      (#v[0#4, 0#4, 0#4, 0b1000#4] : Switches)[r].getLsbD j.val = true → r = 3 := by decide
  intro r
  constructor
  · intro h
    cases h with
    | direct r h => exact only_row_three r 3 h
    | through r r' j _ _ h => exact only_row_three _ j h
  · rintro rfl
    exact .direct 3 (by decide)

theorem witness_IdealSampleFollowsTheGraph_other : ¬ Joined #v[0#4, 0#4, 0#4, 0b1000#4] 3 0 := by
  intro h
  exact absurd ((witness_IdealSampleFollowsTheGraph_single 0).mp h) (by decide)

/-- Two switches closed in column 1 join both their rows to it. -/
theorem witness_IdealSampleFollowsTheGraph_contended :
    Joined #v[0b0010#4, 0b0010#4, 0#4, 0#4] 1 0 ∧ ∃ r, r ≠ 0 ∧ Joined #v[0b0010#4, 0b0010#4, 0#4, 0#4] 1 r :=
  ⟨.direct 0 (by decide), 1, by decide, .direct 1 (by decide)⟩

/-- A reset tick, a sample's own tick, and a row that settles under `IDEAL`. -/
theorem witness_SwitchesChangeFreelyAndSamplesReadThem :
    (∃ t, tick resetPins (start defaults [seen 1]) = .goes t) ∧
    ((runTicks 4 (accept .poll (start defaults [seen 1]))).seq.map Sequencer.phase) = some .sample ∧
    Settles (start (params .desc .rising .ideal) [closed #v[1, 0, 0, 0]]) ∧
    (start (params .desc .rising .ideal) [closed #v[1, 0, 0, 0]]).params.keypadEnv = .ideal :=
  ⟨⟨_, rfl⟩, by decide, by unfold Settles; decide, rfl⟩

/-- The switches of 95 W3: `Six` at (1, 2) and `Zero` at (3, 1). -/
def sixAndZero : Switches := #v[0#4, 0b0100#4, 0#4, 0b0010#4]

theorem witness_IdealPollReportsLowestClosedSwitch_settles :
    Settles (start (params .desc .rising .ideal) (List.replicate 4 (closed sixAndZero))) := by
  unfold Settles; decide

theorem witness_IdealPollReportsLowestClosedSwitch :
    (∀ (k : Fin nCols) (r r' : Fin nRows),
      sixAndZero[r].getLsbD k.val = true → sixAndZero[r'].getLsbD k.val = true → r = r') ∧
    (start (params .desc .rising .ideal) (List.replicate 4 (closed sixAndZero))).params.keypadEnv = .ideal ∧
    ∀ j : Fin nRows,
      (upcoming (start (params .desc .rising .ideal) (List.replicate 4 (closed sixAndZero))) j.val).switches =
        sixAndZero := by decide

theorem witness_EdgeFunctionCases : Key.star ≠ Key.hash := by decide

theorem witness_SourceScenarioFires : (start defaults []).edgePrev = none := rfl

/-- A tick of a running write neither activates the detector nor resets the block. -/
theorem witness_OnlyActivationOrResetChangesEdgePrev_kept :
    ¬ activates (accept (.writeArray 0x01) (start defaults [])) ∧
    ¬ resets (accept (.writeArray 0x01) (start defaults [])) ∧
    (∃ t, step (accept (.writeArray 0x01) (start defaults [])) = .next t) := by
  refine ⟨?_, ?_, _, rfl⟩
  · rintro (⟨t, h⟩ | ⟨x, t, h⟩ | ⟨q, h, hp, _⟩)
    · cases h
    · cases h
    · cases h
      cases hp
  · rintro ⟨p, rest, h, _⟩
    cases h

theorem witness_OnlyActivationOrResetChangesEdgePrev_reset :
    resets (withMove (.clock resetPins) (start defaults [])) ∧
    ∃ t, step (withMove (.clock resetPins) (start defaults [])) = .next t :=
  ⟨⟨resetPins, [], rfl, rfl⟩, _, rfl⟩

theorem witness_WriteArrayResultAndFrame :
    (wired defaults 0xFF 0x5A).clk = false ∧ (wired defaults 0xFF 0x5A).latch = false := by decide

theorem witness_WriteLineTrace :
    (start (params .desc .rising .any) []).params.shiftOrder = .desc ∧
    (start (params .asc .rising .any) []).params.shiftOrder = .asc := by decide

theorem witness_DataLineAfterWrite :
    (start (params .desc .rising .any) []).params.shiftOrder = .desc ∧
    (start (params .asc .rising .any) []).params.shiftOrder = .asc := by decide

theorem witness_OutputsEqualTheImage :
    (wired (params .asc .falling .any) 0xFF 0x5A).clk = false ∧
    (wired (params .asc .falling .any) 0xFF 0x5A).latch = false ∧
    (wired (params .asc .falling .any) 0xFF 0x5A).params.registerFollows = true ∧
    (wired (params .asc .falling .any) 0xFF 0x5A).params.shiftOrder = .asc ∧
    (wired defaults 0xFF 0x5A).params.shiftOrder = .desc := by decide

theorem witness_SecondIdenticalWriteChangesNoOutput :
    (wired defaults 0x00 0x01).clk = false ∧ (wired defaults 0x00 0x01).latch = false ∧
    (wired defaults 0x00 0x01).params.registerFollows = true := by decide

theorem witness_OldChainIsOverwritten :
    (start defaults []).clk = false ∧ (start defaults []).params.registerFollows = true ∧
    (start defaults []).chain = Stages.unknown := by decide

/-- The last tick before the latch's active edge, and the tick of it, both before the response; and, for a first write
after power-up, the last tick before the response, and the response tick. -/
theorem witness_OutputsChangeOnceAtTheLatch :
    Idle (wired defaults 0x00 0x5A) ∧ (wired defaults 0x00 0x5A).params.wf = true ∧
    (wired defaults 0x00 0x5A).params.registerFollows = true ∧ 48 < shownTick (wired defaults 0x00 0x5A) ∧
    ¬ 49 < shownTick (wired defaults 0x00 0x5A) ∧ 52 < shownTick (start defaults []) ∧
    ¬ 53 < shownTick (start defaults []) :=
  ⟨⟨rfl, rfl, rfl, rfl⟩, by decide⟩

theorem witness_OutputsUnknownUntilAWriteCompletes_kept :
    (wired defaults 0x00 0x5A).written = true ∧ ∃ t, step (wired defaults 0x00 0x5A) = .next t := ⟨rfl, _, rfl⟩

/-- A first write that completes in one step, and one that a reset cuts while the latch is high. -/
theorem witness_OutputsUnknownUntilAWriteCompletes_ends :
    (withMove (.command 0x3001) (start defaults [])).written = false ∧
    (∃ t, step (withMove (.command 0x3001) (start defaults [])) = .next t ∧ t.written = true) ∧
    (withMove (.clock resetPins) (writing 0x01 49 (start defaults []))).written = false ∧
    ∃ t, step (withMove (.clock resetPins) (writing 0x01 49 (start defaults []))) = .next t ∧ t.written = true :=
  ⟨rfl, ⟨_, rfl, rfl⟩, by decide, _, rfl, by decide⟩

theorem witness_WriteNeverFailsAndFaultyOutputsAreUnknown :
    (wired { defaults with chipMin := 1 } 0xFF 0x5A).params.registerFollows = false ∧
    (wired { defaults with registerSound := false } 0xFF 0x5A).params.registerFollows = false := by decide

theorem witness_ScannerCommandsLeaveTheDriver :
    (∀ b, Instr.poll ≠ .writeArray b) ∧ Instr.edge .hash = .edgeOf (some .hash) ∧ Instr.edgeNone = .edgeOf none :=
  ⟨nofun, rfl, rfl⟩

theorem witness_StepRunsTheDecodedCommand :
    (withMove (.command 0x30FF) (start defaults [])).seq = none ∧
    (withMove (.command 0x30FF) (start defaults [])).host = .command 0x30FF :: [] ∧
    decode 0x30FF#16 = .command (.writeArray 0xFF) := by decide

theorem witness_BusyBlockMakesTheHostWait :
    (withMove (.command 0x30FF) (accept .poll (start defaults []))).seq = some (startOf defaults .poll) ∧
    (withMove (.command 0x30FF) (accept .poll (start defaults []))).host = .command 0x30FF :: [] := by decide

theorem witness_ReservedWordIsRefused :
    (start defaults []).seq = none ∧ reservedWord 0xFFFF#16 = true ∧
    (withMove (.command 0xFFFF) (start defaults [])).host = .command 0xFFFF :: [] ∧
    (withMove (.clock { rst := false, cmdValid := true, cmdWord := 0xFFFF }) (start defaults [])).host =
      .clock { rst := false, cmdValid := true, cmdWord := 0xFFFF } :: [] := by decide

theorem witness_EveryCommandCompletesAndResponds :
    ∀ rest, (withMove (.command 0x1000) (start defaults [])).host ≠ .platformLoss :: rest := nofun

theorem witness_CommandListRunsToItsEnd :
    (start defaults []).seq = none ∧ ∀ w ∈ [0x1100#16, 0x30FF#16, 0x2000#16], reservedWord w = false := by
  refine ⟨rfl, fun w h => ?_⟩
  simp only [List.mem_cons, List.not_mem_nil, or_false] at h
  rcases h with rfl | rfl | rfl <;> decide

/-- The response tick of an `EDGE`, and a tick that is none. -/
theorem witness_ResponseTick :
    tick Pins.idle (accept .edgeNone (start defaults [])) =
      .goes (runTick (accept .edgeNone (start defaults []))) ∧
    (outputs Pins.idle (accept .edgeNone (start defaults []))
      (runTick (accept .edgeNone (start defaults [])))).rspValid = true ∧
    tick Pins.idle (accept .poll (start defaults [])) = .goes (runTick (accept .poll (start defaults []))) ∧
    (outputs Pins.idle (accept .poll (start defaults []))
      (runTick (accept .poll (start defaults [])))).rspValid = false := ⟨rfl, rfl, rfl, rfl⟩

theorem witness_TicksRefineTheTransaction :
    (start defaults [seen 0, seen 2]).seq = none ∧ (start defaults [seen 0, seen 2]).params.wf = true ∧
    0 < tickCount defaults ((found (start defaults [seen 0, seen 2])).map Prod.fst) .poll := by decide

/-- A busy block, an idle one given a word, an idle one given nothing, and a step that is a tick. -/
theorem witness_TickGoesOnOrAccepts :
    Pins.idle.rst = false ∧ (accept .poll (start defaults [])).busy = true ∧ (start defaults []).busy = false ∧
    (Pins.present 0x2011).rst = false ∧ (Pins.present 0x2011).cmdValid = true ∧
    decode (Pins.present 0x2011).cmdWord = .command (.edge .one) ∧ Pins.idle.cmdValid = false ∧
    (withMove (.clock Pins.idle) (start defaults [])).host = .clock Pins.idle :: [] ∧
    ∃ t, tick Pins.idle { withMove (.clock Pins.idle) (start defaults []) with host := [] } = .goes t :=
  ⟨rfl, by decide, by decide, rfl, rfl, by decide, rfl, rfl, _, rfl⟩

/-- A reset tick of a working register whose latch line stands high, with either latch edge. -/
theorem witness_ResetTick :
    resetPins.rst = true ∧ ({ wired defaults 0x0F 0x5A with latch := true }).params.registerFollows = true ∧
    ({ wired (params .desc .falling .any) 0x0F 0x5A with latch := true }).params.registerFollows = true ∧
    ({ wired (params .desc .falling .any) 0x0F 0x5A with latch := true }).params.latchEdge = .falling ∧
    ({ wired (params .desc .falling .any) 0x0F 0x5A with latch := true }).latch = true ∧
    ({ wired (params .desc .falling .any) 0x0F 0x5A with latch := true }).written = true ∧
    latchDriven (writing 0x01 49 (start defaults [])) = true ∧
    (start defaults []).written = false ∧ latchDriven (start defaults []) = false := by decide

theorem witness_ResetWinsOverACommand : decode 0x1000#16 = .command .poll := by decide

/-- Ticks on both sides of `Drive(LATCH, 1)`, and the first and the last tick of the command. -/
theorem witness_ResetDuringWrite :
    Idle (wired defaults 0x00 0x5A) ∧ (wired defaults 0x00 0x5A).params.wf = true ∧
    (wired defaults 0x00 0x5A).params.registerFollows = true ∧
    0 < tickCount defaults none (.writeArray 0xFF) ∧ 52 < tickCount defaults none (.writeArray 0xFF) ∧
    48 < latchTick defaults ∧ ¬ 49 < latchTick defaults ∧ resetPins.rst = true :=
  ⟨⟨rfl, rfl, rfl, rfl⟩, by decide⟩

theorem witness_ResetDuringPoll :
    Idle (start defaults [seen 0, seen 2]) ∧ (start defaults [seen 0, seen 2]).params.wf = true ∧
    (start defaults [seen 0, seen 2]).params.registerFollows = true ∧
    11 < tickCount defaults ((found (start defaults [seen 0, seen 2])).map Prod.fst) .pollE ∧ resetPins.rst = true :=
  ⟨⟨rfl, rfl, rfl, rfl⟩, by decide⟩

/-- The invariant holds of a concrete state, and a step from it gives a next state. -/
theorem witness_StepKeepsTheInvariant :
    Inv (start defaults []) ∧ ∃ t, step (start defaults []) = .next t :=
  ⟨⟨by decide, by decide, ⟨none, none, by decide⟩, fun _ => ⟨rfl, rfl⟩⟩, _, rfl⟩

theorem witness_NoTwoRowsAreEverHigh :
    rowsLegal (accept .poll (start defaults [])).rowOut = true ∧
    ∃ t, step (accept .poll (start defaults [])) = .next t := ⟨by decide, _, rfl⟩

theorem witness_RowsIdleAfterPoll :
    Inv (start defaults []) ∧ ∃ t, step (start defaults []) = .next t ∧ t.seq = none :=
  ⟨witness_StepKeepsTheInvariant.1, _, rfl, rfl⟩

theorem witness_ParametersAndProgramNeverChange :
    ∃ t, step (withMove (.clock resetPins) (start defaults [])) = .next t := ⟨_, rfl⟩

theorem witness_OptionKeyEncodingInverts : (0x1#4 : Nibble) ≠ 0#4 := by decide

end Sys2Proof.Tests
end

section
/-! What R37 keeps: the parameters are never written, and the host's moves are only used up. A tick and a whole command
leave both as they are; the step alone takes a move from the host's list. -/

namespace Sys2Proof.Proofs

open Sys2Proof.Machine Sys2Proof.Laws

/-- The second state has the parameters and the host's moves of the first. -/
structure SameInputs (s t : State) : Prop where
  params : t.params = s.params
  host   : t.host = s.host

theorem SameInputs.trans {s t u : State} (hst : SameInputs s t) (htu : SameInputs t u) : SameInputs s u :=
  ⟨htu.params.trans hst.params, htu.host.trans hst.host⟩

/-! One tick. -/

theorem sameInputs_tickAt {tickAt : Nat → State → State} (h : OnlyTheKeypad tickAt) (left : Nat) (s : State) :
    SameInputs s (tickAt left s) := by
  rw [h left s]
  exact ⟨rfl, rfl⟩

theorem sameInputs_holdTick {tickAt : Nat → State → State} (h : OnlyTheKeypad tickAt) (n : Nat) (after : Phase)
    (q : Sequencer) (s : State) : SameInputs s (holdTick tickAt n after q s) := by
  obtain ⟨hparams, hhost⟩ := sameInputs_tickAt h q.hold s
  unfold holdTick
  split
  · exact ⟨hparams, hhost⟩
  · exact ⟨hparams, hhost⟩

theorem sameInputs_sampleTick (q : Sequencer) (s : State) : SameInputs s (sampleTick q s) := by
  unfold sampleTick
  dsimp only
  split
  · exact ⟨rfl, rfl⟩
  · split
    · exact ⟨rfl, rfl⟩
    · exact ⟨rfl, rfl⟩

theorem sameInputs_bitEndTick (q : Sequencer) (s : State) : SameInputs s (bitEndTick q s) := by
  unfold bitEndTick
  split
  · exact ⟨rfl, rfl⟩
  · exact ⟨rfl, rfl⟩

theorem sameInputs_complete (i : Instr) (found : Option Key) (s : State) : SameInputs s (complete i found s) := by
  cases i <;> exact ⟨rfl, rfl⟩

/-- A running command's tick, by its phase: a drive, a tick of a hold, a sample, or the response. -/
theorem sameInputs_seqTick (q : Sequencer) (s : State) : SameInputs s (seqTick q s) := by
  unfold seqTick
  cases q.phase with
  | driveRow | park | setData | clkHigh | clkLow | latchHigh | latchLow => exact ⟨rfl, rfl⟩
  | settle => exact sameInputs_holdTick settleTick_onlyTheKeypad _ _ q s
  | holdData | holdClkHigh | holdLatchHigh | holdLatchLow =>
    exact sameInputs_holdTick clock_onlyTheKeypad _ _ q s
  | sample => exact sameInputs_sampleTick q s
  | holdClkLow => exact sameInputs_bitEndTick q s
  | respond => exact sameInputs_complete q.cmd q.pending s

theorem sameInputs_runTick (s : State) : SameInputs s (runTick s) := by
  cases hs : s.seq with
  | none => rw [runTick_idle hs]; exact ⟨rfl, rfl⟩
  | some q =>
    rw [runTick_busy hs]
    obtain ⟨hparams, hhost⟩ := sameInputs_seqTick q { s with rspValid := false }
    exact ⟨hparams, hhost⟩

theorem sameInputs_of_tick {pins : Pins} {s t : State} (h : tick pins s = .goes t) : SameInputs s t := by
  obtain ⟨-, rfl⟩ | ⟨-, -, i, -, rfl⟩ | ⟨-, rfl⟩ := tick_cases h
  · exact ⟨rfl, rfl⟩
  · exact ⟨rfl, rfl⟩
  · exact sameInputs_runTick s

/-! One whole command. -/

theorem sameInputs_scan (s : State) : SameInputs s (scan s).2 := by
  obtain ⟨-, -, -, -, -, -, -, -, hhost, -, -, -, hparams⟩ := scanRows_frame scanOrder s
  exact ⟨hparams, hhost⟩

theorem sameInputs_shiftBits (b : Image) (order : List (Fin imgWidth)) (s : State) :
    SameInputs s (shiftBits b order s) := by
  induction order generalizing s with
  | nil => exact ⟨rfl, rfl⟩
  | cons i order ih =>
    have hbit : SameInputs s (shiftBit b i s) := ⟨rfl, rfl⟩
    exact hbit.trans (ih (shiftBit b i s))

theorem sameInputs_writeSequence (b : Image) (s : State) : SameInputs s (writeSequence b s) := by
  have hpulse (u : State) : SameInputs u (pulseLatch u) := ⟨rfl, rfl⟩
  exact (sameInputs_shiftBits b (shiftOrder s.params.shiftOrder) s).trans (hpulse _)

/-- Every command ends in its response (R46), from a state that its scan or its line sequence has reached. -/
theorem exec_eq_complete (i : Instr) (s : State) :
    ∃ found u, SameInputs s u ∧ exec i s = .next (complete i found u) := by
  have hclock : SameInputs s (clock s) := ⟨rfl, rfl⟩
  cases i with
  | poll => exact ⟨_, _, hclock.trans (sameInputs_scan _), rfl⟩
  | pollE => exact ⟨_, _, hclock.trans (sameInputs_scan _), rfl⟩
  | edgeNone => exact ⟨none, _, hclock, rfl⟩
  | edge k => exact ⟨none, _, hclock, rfl⟩
  | writeArray b => exact ⟨none, _, hclock.trans (sameInputs_writeSequence b _), rfl⟩

theorem sameInputs_of_exec {i : Instr} {s t : State} (h : exec i s = .next t) : SameInputs s t := by
  obtain ⟨found, u, hsu, he⟩ := exec_eq_complete i s
  cases he.symm.trans h
  exact hsu.trans (sameInputs_complete i found u)

/-! One step. -/

/-- What goes on with the rest of the host's moves keeps the parameters and leaves a tail of all its moves. -/
theorem SameInputs.params_and_suffix {s t : State} {rest : List HostMove} (h : SameInputs { s with host := rest } t)
    (hrest : rest <:+ s.host) : t.params = s.params ∧ t.host <:+ s.host := by
  refine ⟨h.params, ?_⟩
  rw [h.host]
  exact hrest

/-- Settles O58: a step takes at most one move from the host's list, and the tick or the command that follows keeps the
parameters and the rest of the list. -/
theorem parametersAndProgramNeverChange : Obligations.ParametersAndProgramNeverChange := by
  intro s t h
  obtain ⟨w, i, rest, hhost, -, -, hexec⟩ | ⟨-, htick⟩ | ⟨w, rest, -, -, htick⟩ | ⟨pins, rest, hhost, htick⟩ :=
    step_cases h
  · exact (sameInputs_of_exec hexec).params_and_suffix (hhost ▸ List.suffix_cons _ rest)
  · exact (sameInputs_of_tick htick).params_and_suffix List.suffix_rfl
  · exact (sameInputs_of_tick htick).params_and_suffix List.suffix_rfl
  · exact (sameInputs_of_tick htick).params_and_suffix (hhost ▸ List.suffix_cons _ rest)

end Sys2Proof.Proofs
end

section
/-! The fields of a command word: each legal format (R102 to R104) as its fields one after the other, a word as the fields
the decoder reads, and the 5-bit form of an optional key (R108) in each of its four places. -/

namespace Sys2Proof.Proofs

open Sys2Proof.Machine Sys2Proof.Laws

/-! The 5-bit form of an optional key (R108). -/

@[simp] theorem decKey_one (kc : Nibble) : decKey 1#1 kc = some (some (keyOf kc)) := rfl

theorem decKey_zero (kc : Nibble) : decKey 0#1 kc = if kc = 0#4 then some none else none := rfl

theorem decKey_eq_none_iff {v : BitVec 1} {kc : Nibble} : decKey v kc = none ↔ v = 0#1 ∧ kc ≠ 0#4 := by
  obtain rfl | rfl := BitVec.eq_zero_or_eq_one v
  · simp [decKey_zero]
  · simp

/-- What `dec` accepts is the `enc` of the optional key it answers. -/
theorem encKey_of_decKey {v : BitVec 1} {kc : Nibble} {x : Option Key} (h : decKey v kc = some x) :
    encKey x = v ++ kc := by
  obtain rfl | rfl := BitVec.eq_zero_or_eq_one v
  · obtain ⟨rfl, rfl⟩ : kc = 0#4 ∧ none = x := by simpa [decKey_zero] using h
    rfl
  · obtain rfl : some (keyOf kc) = x := by simpa using h
    simp [encKey]

theorem decKey_encKey (x : Option Key) :
    decKey ((encKey x).extractLsb' 4 1) ((encKey x).extractLsb' 0 4) = some x := by
  cases x with
  | none => rfl
  | some k => cases k <;> rfl

/-- A valid bit and a code read from five bits are those five bits. -/
theorem valid_append_code (e : BitVec 5) : BitVec.ofBool (e.getLsbD 4) ++ e.extractLsb' 0 4 = e := by
  revert e; decide

/-! The formats. -/

/-- `POLL` and `POLL.E` (R102): the opcode, three zero bits, `E` and eight zero bits. -/
theorem encode_pollForm (e : BitVec 1) :
    encode (if e = 0#1 then .poll else .pollE) = 0x1#4 ++ 0#3 ++ e ++ 0#8 := by
  revert e; decide

/-- `EDGE` (R103): the opcode, seven zero bits and `{V, KC}`. -/
theorem encode_edgeOf (x : Option Key) : encode (.edgeOf x) = 0x2#4 ++ 0#7 ++ encKey x := by
  cases x with
  | none => rfl
  | some k => cases k <;> rfl

/-- `WRITE_ARRAY` (R104): the opcode, four zero bits and the image. -/
theorem encode_writeArray (b : Image) : encode (.writeArray b) = 0x3#4 ++ 0#4 ++ b := by
  revert b; decide

theorem word_eq_poll_fields (w : Word) :
    w.extractLsb' 12 4 ++ w.extractLsb' 9 3 ++ w.extractLsb' 8 1 ++ w.extractLsb' 0 8 = w := by
  simp only [BitVec.extractLsb'_append_extractLsb'_eq_extractLsb']
  exact BitVec.extractLsb'_eq_self

theorem word_eq_edge_fields (w : Word) :
    w.extractLsb' 12 4 ++ w.extractLsb' 5 7 ++ (w.extractLsb' 4 1 ++ w.extractLsb' 0 4) = w := by
  simp only [BitVec.extractLsb'_append_extractLsb'_eq_extractLsb']
  exact BitVec.extractLsb'_eq_self

theorem word_eq_write_fields (w : Word) :
    w.extractLsb' 12 4 ++ w.extractLsb' 8 4 ++ w.extractLsb' 0 8 = w := by
  simp only [BitVec.extractLsb'_append_extractLsb'_eq_extractLsb']
  exact BitVec.extractLsb'_eq_self

/-! The places of the 5-bit form. -/

theorem encode_edgeOf_operand (x : Option Key) : (encode (.edgeOf x)).extractLsb' 0 5 = encKey x := by
  rw [encode_edgeOf]
  exact BitVec.extractLsb'_append_eq_right

theorem resultWord_key (key fire : Option Key) : (resultWord key fire).extractLsb' 0 5 = encKey key :=
  BitVec.extractLsb'_append_eq_right

theorem resultWord_fire (key fire : Option Key) : (resultWord key fire).extractLsb' 8 5 = encKey fire :=
  calc (resultWord key fire).extractLsb' 8 5
    _ = (0b000#3 ++ encKey fire ++ 0b000#3).extractLsb' 3 5 := BitVec.extractLsb'_append_eq_of_le (by decide)
    _ = (0b000#3 ++ encKey fire).extractLsb' 0 5 := BitVec.extractLsb'_append_eq_of_le (by decide)
    _ = encKey fire := BitVec.extractLsb'_append_eq_right

/-- Settles O5: the table and the four places of the 5-bit form, each by the lemma of its name. -/
theorem optionKeyEncodingInverts : Obligations.OptionKeyEncodingInverts :=
  ⟨rfl, keyOf_keyCode, keyCode_keyOf, rfl, fun _ => rfl, rfl, decKey_one,
    fun _ hkc => decKey_eq_none_iff.mpr ⟨rfl, hkc⟩, decKey_encKey, encode_edgeOf_operand,
    fun key fire => ⟨resultWord_key key fire, resultWord_fire key fire⟩,
    fun s => valid_append_code (encKey s.edgePrev)⟩

end Sys2Proof.Proofs
end

section
/-! The decoder against R105: every word is the word of the command it decodes to, or is reserved by one of the four
clauses; and the legal words, counted as the words of the commands. -/

namespace Sys2Proof.Proofs

open Sys2Proof.Machine Sys2Proof.Laws

/-! R105's clauses in the decoder's terms. -/

theorem opUnassigned_iff (w : Word) :
    opUnassigned w = true ↔
      w.extractLsb' 12 4 ≠ 0x1#4 ∧ w.extractLsb' 12 4 ≠ 0x2#4 ∧ w.extractLsb' 12 4 ≠ 0x3#4 := by
  have unassigned : ∀ op : Nibble, (op == 0x0#4 || decide (0x4#4 ≤ op)) = true ↔
      op ≠ 0x1#4 ∧ op ≠ 0x2#4 ∧ op ≠ 0x3#4 := by
    decide
  exact unassigned _

theorem pollMalformed_iff (w : Word) :
    pollMalformed w = true ↔
      w.extractLsb' 12 4 = 0x1#4 ∧ ¬(w.extractLsb' 9 3 = 0#3 ∧ w.extractLsb' 0 8 = 0#8) := by
  simp [pollMalformed, imp_iff_not_or]

theorem edgeMalformed_iff (w : Word) :
    edgeMalformed w = true ↔
      w.extractLsb' 12 4 = 0x2#4 ∧
        (w.extractLsb' 5 7 ≠ 0#7 ∨ decKey (w.extractLsb' 4 1) (w.extractLsb' 0 4) = none) := by
  simp [edgeMalformed, decKey_eq_none_iff]

theorem writeMalformed_iff (w : Word) :
    writeMalformed w = true ↔ w.extractLsb' 12 4 = 0x3#4 ∧ w.extractLsb' 8 4 ≠ 0#4 := by
  simp [writeMalformed]

/-! The decoder. -/

/-- What the decoder can answer (R109): the command whose word it is given, or that word itself, which R105 reserves. -/
theorem decode_cases (w : Word) :
    (∃ i, decode w = .command i ∧ encode i = w) ∨ (decode w = .reserved w ∧ reservedWord w = true) := by
  fun_cases decode w with
  | case1 hop hfields =>
    obtain ⟨hzero, hlow⟩ := hfields
    refine .inl ⟨_, rfl, ?_⟩
    rw [encode_pollForm, ← hzero, ← hlow, ← BitVec.eq_of_toNat_eq (y := 0x1#4) hop]
    exact word_eq_poll_fields w
  | case2 hop hfields =>
    have hclause := (pollMalformed_iff w).mpr ⟨BitVec.eq_of_toNat_eq hop, hfields⟩
    exact .inr ⟨rfl, by simp [reservedWord, hclause]⟩
  | case3 hop hzero x hkey =>
    refine .inl ⟨_, rfl, ?_⟩
    rw [encode_edgeOf, encKey_of_decKey hkey, ← hzero, ← BitVec.eq_of_toNat_eq (y := 0x2#4) hop]
    exact word_eq_edge_fields w
  | case4 hop hzero hkey =>
    have hclause := (edgeMalformed_iff w).mpr ⟨BitVec.eq_of_toNat_eq hop, .inr hkey⟩
    exact .inr ⟨rfl, by simp [reservedWord, hclause]⟩
  | case5 hop hzero =>
    have hclause := (edgeMalformed_iff w).mpr ⟨BitVec.eq_of_toNat_eq hop, .inl hzero⟩
    exact .inr ⟨rfl, by simp [reservedWord, hclause]⟩
  | case6 hop hzero =>
    refine .inl ⟨_, rfl, ?_⟩
    rw [encode_writeArray, ← hzero, ← BitVec.eq_of_toNat_eq (y := 0x3#4) hop]
    exact word_eq_write_fields w
  | case7 hop hzero =>
    have hclause := (writeMalformed_iff w).mpr ⟨BitVec.eq_of_toNat_eq hop, hzero⟩
    exact .inr ⟨rfl, by simp [reservedWord, hclause]⟩
  | case8 hpoll hedge hwrite =>
    have hclause := (opUnassigned_iff w).mpr ⟨fun h => hpoll (congrArg BitVec.toNat h),
      fun h => hedge (congrArg BitVec.toNat h), fun h => hwrite (congrArg BitVec.toNat h)⟩
    exact .inr ⟨rfl, by simp [reservedWord, hclause]⟩

/-- Every command's word decodes to it (R109). -/
theorem decode_encode (i : Instr) : decode (encode i) = .command i := by
  cases i with
  | poll => rfl
  | pollE => rfl
  | edgeNone => rfl
  | edge k => cases k <;> rfl
  | writeArray b => revert b; decide

theorem encode_injective : Function.Injective encode := by
  intro i j h
  have hdecode := congrArg decode h
  rw [decode_encode, decode_encode] at hdecode
  exact Decoded.command.inj hdecode

/-- A word that decodes to a command is that command's word, and no other word decodes to it (R109). -/
theorem decode_eq_command_iff {w : Word} {i : Instr} : decode w = .command i ↔ encode i = w := by
  constructor
  · intro h
    obtain ⟨j, hj, hw⟩ | ⟨hres, -⟩ := decode_cases w
    · cases hj.symm.trans h
      exact hw
    · cases hres.symm.trans h
  · rintro rfl
    exact decode_encode i

/-- No command's word is reserved: the family `EncodesToLegalWord` for all commands at once. -/
theorem reservedWord_encode (i : Instr) : reservedWord (encode i) = false := by
  cases i with
  | poll => exact EncodesToLegalWord.poll
  | pollE => exact EncodesToLegalWord.pollE
  | edgeNone => exact EncodesToLegalWord.edgeNone
  | edge k => exact EncodesToLegalWord.edge k
  | writeArray b => exact EncodesToLegalWord.writeArray b

/-- The decoder refuses only under the word it was given, and only a word R105 reserves. -/
theorem eq_and_reservedWord_of_decode {w v : Word} (h : decode w = .reserved v) : v = w ∧ reservedWord w = true := by
  obtain ⟨i, hi, -⟩ | ⟨hres, hword⟩ := decode_cases w
  · cases hi.symm.trans h
  · cases hres.symm.trans h
    exact ⟨rfl, hword⟩

theorem reservedWord_eq_false_iff (w : Word) : reservedWord w = false ↔ ∃ i, encode i = w := by
  constructor
  · intro hlegal
    obtain ⟨i, -, hw⟩ | ⟨-, hword⟩ := decode_cases w
    · exact ⟨i, hw⟩
    · cases hlegal.symm.trans hword
  · rintro ⟨i, rfl⟩
    exact reservedWord_encode i

theorem reservedWord_iff_decode (w : Word) : reservedWord w = true ↔ decode w = .reserved w := by
  constructor
  · intro hword
    obtain ⟨i, -, rfl⟩ | ⟨hres, -⟩ := decode_cases w
    · cases (reservedWord_encode i).symm.trans hword
    · exact hres
  · intro h
    exact (eq_and_reservedWord_of_decode h).2

/-- A step from an idle block that is handed a word the decoder refuses is refused under that word (R241). -/
theorem step_of_decode_reserved {s : State} {w v : Word} {rest : List HostMove} (hseq : s.seq = none)
    (hhost : s.host = .command w :: rest) (hdecode : decode w = .reserved v) :
    step s = .refused (.reservedCommand v) := by
  simp [step, fetch, hhost, State.busy, hseq, hdecode]

/-! The commands, listed. -/

/-- Every bit vector of `n` bits, once. -/
def allBits (n : Nat) : List (BitVec n) := (List.finRange (2 ^ n)).map BitVec.ofFin

theorem mem_allBits {n : Nat} (b : BitVec n) : b ∈ allBits n :=
  List.mem_map.mpr ⟨b.toFin, List.mem_finRange _, rfl⟩

theorem nodup_allBits (n : Nat) : (allBits n).Nodup :=
  (List.nodup_finRange _).map fun _ _ h => congrArg BitVec.toFin h

@[simp] theorem length_allBits (n : Nat) : (allBits n).length = 2 ^ n := by simp [allBits]

/-- The 17 optional keys (R108). -/
def optionKeys : List (Option Key) := none :: (allBits 4).map fun kc => some (keyOf kc)

theorem mem_optionKeys (x : Option Key) : x ∈ optionKeys := by
  cases x with
  | none => exact List.mem_cons_self
  | some k => exact List.mem_cons_of_mem _ (List.mem_map.mpr ⟨keyCode k, mem_allBits _, by rw [keyOf_keyCode]⟩)

/-- The two `POLL` forms (R102). -/
def pollCommands : List Instr := [.poll, .pollE]

/-- The `EDGE` forms (R103). -/
def edgeCommands : List Instr := optionKeys.map Instr.edgeOf

/-- The `WRITE_ARRAY` forms (R104). -/
def writeCommands : List Instr := (allBits imgWidth).map Instr.writeArray

theorem mem_pollCommands {i : Instr} : i ∈ pollCommands ↔ i = .poll ∨ i = .pollE := by simp [pollCommands]

theorem mem_edgeCommands {i : Instr} : i ∈ edgeCommands ↔ ∃ x, i = .edgeOf x := by
  simp [edgeCommands, mem_optionKeys, eq_comm]

theorem mem_writeCommands {i : Instr} : i ∈ writeCommands ↔ ∃ b, i = .writeArray b := by
  simp [writeCommands, mem_allBits, eq_comm]

theorem nodup_commands : (pollCommands ++ edgeCommands ++ writeCommands).Nodup := by
  have hscanner : (pollCommands ++ edgeCommands).Nodup := by decide
  have hwrites : writeCommands.Nodup := (nodup_allBits _).map fun _ _ h => Instr.writeArray.inj h
  refine List.nodup_append.mpr ⟨hscanner, hwrites, ?_⟩
  intro i hi j hj hij
  obtain ⟨b, rfl⟩ := mem_writeCommands.mp hj
  subst hij
  obtain hpoll | hedge := List.mem_append.mp hi
  · simp [mem_pollCommands] at hpoll
  · obtain ⟨x, hx⟩ := mem_edgeCommands.mp hedge
    cases x <;> cases hx

theorem mem_commands (i : Instr) : i ∈ pollCommands ++ edgeCommands ++ writeCommands := by
  simp only [List.mem_append, mem_pollCommands, mem_edgeCommands, mem_writeCommands]
  cases i with
  | poll => exact .inl (.inl (.inl rfl))
  | pollE => exact .inl (.inl (.inr rfl))
  | edgeNone => exact .inl (.inr ⟨none, rfl⟩)
  | edge k => exact .inl (.inr ⟨some k, rfl⟩)
  | writeArray b => exact .inr ⟨b, rfl⟩

/-- The words of listed commands are the words that decode to one of them. -/
theorem mem_map_encode {w : Word} {l : List Instr} : w ∈ l.map encode ↔ ∃ i ∈ l, decode w = .command i := by
  simp only [List.mem_map, decode_eq_command_iff]

/-- Settles O2: the decoder refuses what R105 reserves because every other word is a command's word, and the legal words
are counted as the words of the listed commands. -/
theorem reservedWordsAreThoseOfTheRule : Obligations.ReservedWordsAreThoseOfTheRule := by
  refine ⟨reservedWord_iff_decode, fun w v h => (eq_and_reservedWord_of_decode h).1,
    fun s w rest hword hseq hhost => step_of_decode_reserved hseq hhost ((reservedWord_iff_decode w).mp hword),
    pollCommands.map encode, edgeCommands.map encode, writeCommands.map encode, ?_⟩
  have hpolls : (pollCommands.map encode).length = 2 := rfl
  have hedges : (edgeCommands.map encode).length = 17 := rfl
  have hwrites : (writeCommands.map encode).length = 256 := by simp [writeCommands, imgWidth]
  have hall : (pollCommands.map encode ++ edgeCommands.map encode ++ writeCommands.map encode).length = 275 := by
    rw [List.length_append, List.length_append, hpolls, hedges, hwrites]
  refine ⟨hpolls, hedges, hwrites, ?_, hall, by rw [hall], fun w => ?_, fun w => ?_, fun w => ?_, fun w => ?_⟩
  · rw [← List.map_append, ← List.map_append]
    exact nodup_commands.map encode_injective
  · simp [mem_map_encode, mem_pollCommands]
  · simp [mem_map_encode, mem_edgeCommands]
  · simp [mem_map_encode, mem_writeCommands]
  · rw [← List.map_append, ← List.map_append, mem_map_encode, reservedWord_eq_false_iff]
    simp only [mem_commands, true_and, decode_eq_command_iff]

end Sys2Proof.Proofs
end

section
/-! The scan (R140 to R149) as the rows it visits: when the rows settle as R142 asks, the sample of row `r` is the poll's
sample number `r`, so the scan stops where `Expect.found` says, after the rows up to that one and the final low drive. -/

namespace Sys2Proof.Proofs

open Sys2Proof.Machine Sys2Proof.Laws Sys2Proof.Expect

/-! The rows of a scan. -/

/-- The state after the rows of a list have been driven, settled and sampled, one after the other. -/
def sampleRows (rows : List (Fin nRows)) (s : State) : State := rows.foldl (fun u r => afterSample (visitRow r u)) s

theorem sampleRows_concat (rows : List (Fin nRows)) (r : Fin nRows) (s : State) :
    sampleRows (rows ++ [r]) s = afterSample (visitRow r (sampleRows rows s)) := by
  simp [sampleRows]

@[simp] theorem sampleRows_params (rows : List (Fin nRows)) (s : State) : (sampleRows rows s).params = s.params := by
  induction rows generalizing s with
  | nil => rfl
  | cons r rows ih => exact ih (afterSample (visitRow r s))

/-- Each row uses up one of the keypad agent's moments. -/
theorem upcoming_sampleRows (rows : List (Fin nRows)) (s : State) (j : Nat) :
    upcoming (sampleRows rows s) j = upcoming s (j + rows.length) := by
  induction rows generalizing s with
  | nil => rfl
  | cons r rows ih =>
    calc upcoming (sampleRows rows (afterSample (visitRow r s))) j
      _ = upcoming (afterSample (visitRow r s)) (j + rows.length) := ih _
      _ = upcoming s (j + (rows.length + 1)) := by rw [upcoming_afterSample, upcoming_visitRow, Nat.add_assoc]

/-- The rows before row `r` in the scan's order are `r` many. -/
theorem length_take_scanOrder (r : Fin nRows) : (scanOrder.take r.val).length = r.val := by revert r; decide

theorem take_succ_scanOrder (r : Fin nRows) : scanOrder.take (r.val + 1) = scanOrder.take r.val ++ [r] := by
  revert r; decide

/-- After the rows before it, row `r` is sampled as the keypad answers it. -/
theorem columnSample_sampleRows {s : State} (h : Settles s) (r : Fin nRows) :
    columnSample (visitRow r (sampleRows (scanOrder.take r.val) s)) = rowSample s r := by
  have hsettle : syncStages ≤ (sampleRows (scanOrder.take r.val) s).params.settleTicks := by
    rw [sampleRows_params]
    exact Nat.le_of_succ_le h
  rw [columnSample_visitRow hsettle, sampleRows_params, upcoming_sampleRows, length_take_scanOrder, Nat.zero_add]
  rfl

/-- The first `n` rows put their drives, settle times and samples on the trace (R152). -/
theorem sampleRows_trace {s : State} (h : Settles s) {n : Nat} (hn : n ≤ nRows) :
    (sampleRows (scanOrder.take n) s).trace = s.trace ++ (scanOrder.take n).flatMap (rowEvents s) := by
  induction n with
  | zero => simp [sampleRows]
  | succ n ih =>
    have hrow := columnSample_sampleRows h ⟨n, hn⟩
    have htake := take_succ_scanOrder ⟨n, hn⟩
    dsimp only at hrow htake
    rw [htake, sampleRows_concat, afterSample_trace, hrow]
    simp [ih (Nat.le_of_succ_le hn), rowEvents]

/-! The scan. -/

/-- What a scan finds, and the rows it visits to find it: the rows up to the first active one, or all four (R144). -/
theorem scan_eq {s : State} (h : Settles s) :
    scan s = (found s, driveRows 0#4 (sampleRows (scanOrder.take ((lastRow s).val + 1)) s)) := by
  have h0 : columnSample (visitRow 0 s) = rowSample s 0 := columnSample_sampleRows h 0
  have h1 : columnSample (visitRow 1 (sampleRows [0] s)) = rowSample s 1 := columnSample_sampleRows h 1
  have h2 : columnSample (visitRow 2 (sampleRows [0, 1] s)) = rowSample s 2 := columnSample_sampleRows h 2
  have h3 : columnSample (visitRow 3 (sampleRows [0, 1, 2] s)) = rowSample s 3 := columnSample_sampleRows h 3
  simp only [sampleRows, List.foldl_cons, List.foldl_nil] at h1 h2 h3
  simp only [scan, scanOrder, scanRows, h0, h1, h2, h3, lastRow, found]
  split_ifs <;> rfl

theorem scan_found {s : State} (h : Settles s) : (scan s).1 = found s := by rw [scan_eq h]

theorem scan_trace {s : State} (h : Settles s) : (scan s).2.trace = s.trace ++ pollEvents s := by
  rw [scan_eq h, driveRows_trace, sampleRows_trace h (lastRow s).isLt, pollEvents, List.append_assoc]

/-! The position found. -/

/-- `ctz4` of an active sample is its lowest active column (R8, R145). -/
theorem ctz4_lowest {v : Nibble} (h : v ≠ 0#4) :
    v.getLsbD (ctz4 v).val = true ∧ ∀ j : Fin nCols, j < ctz4 v → v.getLsbD j.val = false := by
  revert v; decide

/-- A position found is the lowest active column of the first active row. -/
theorem first_of_found {s : State} {r : Fin nRows} {c : Fin nCols} (h : found s = some (r, c)) :
    rowSample s r ≠ 0#4 ∧ ctz4 (rowSample s r) = c ∧ ∀ j : Fin nRows, j < r → rowSample s j = 0#4 := by
  unfold found at h
  split_ifs at h with h0 h1 h2 h3 <;> cases h
  · exact ⟨h0, rfl, by simp⟩
  · exact ⟨h1, rfl, by simpa [Fin.forall_fin_succ] using h0⟩
  · exact ⟨h2, rfl, by simpa [Fin.forall_fin_succ] using And.intro h0 h1⟩
  · exact ⟨h3, rfl, by simpa [Fin.forall_fin_succ] using And.intro h0 (And.intro h1 h2)⟩

theorem found_eq_none_iff (s : State) : found s = none ↔ ∀ r : Fin nRows, rowSample s r = 0#4 := by
  unfold found
  split_ifs <;> simp_all [Fin.forall_fin_succ]

/-- Settles O10: the scan is `Expect.found` with the rows up to the last one sampled, and what is found is read off the
samples. -/
theorem scanFindsFirstActivePosition : Obligations.ScanFindsFirstActivePosition := by
  intro s hs
  refine ⟨scan_found hs, scan_trace hs, fun r c hpos => ?_, by rw [scan_found hs, found_eq_none_iff]⟩
  rw [scan_found hs] at hpos
  obtain ⟨hactive, rfl, hbefore⟩ := first_of_found hpos
  obtain ⟨hset, hlower⟩ := ctz4_lowest hactive
  exact ⟨hset, hlower, hbefore⟩

end Sys2Proof.Proofs
end

section
/-! The two polls (R150, R151): the result word's valid bits, the detector's function, and what a poll leaves. -/

namespace Sys2Proof.Proofs

open Sys2Proof.Machine Sys2Proof.Laws Sys2Proof.Expect

/-! The valid bits of a result (R107, R108). -/

@[simp] theorem encKey_valid (x : Option Key) : (encKey x).getLsbD 4 = x.isSome := by
  cases x with
  | none => rfl
  | some k => cases k <;> rfl

@[simp] theorem keyValid_resultWord (key fire : Option Key) : keyValid (resultWord key fire) = key.isSome := by
  rw [← encKey_valid key, ← resultWord_key key fire, BitVec.getLsbD_extractLsb']
  rfl

@[simp] theorem fireValid_resultWord (key fire : Option Key) : fireValid (resultWord key fire) = fire.isSome := by
  rw [← encKey_valid fire, ← resultWord_fire key fire, BitVec.getLsbD_extractLsb']
  rfl

/-- The key the edge function fires (R181). -/
theorem edge_fires (prev x : Option Key) : (edge prev x).1 = fired prev x := by
  cases x with
  | none => rfl
  | some k =>
    by_cases hprev : prev = some k
    · simp [edge, fired, hprev]
    · simp [edge, fired, hprev, Ne.symm hprev]

/-! A poll's scan, which begins after the tick of acceptance. -/

/-- The key a poll looks up is the one the samples give: the tick of acceptance uses up none of them. -/
theorem lookup_scan_clock {s : State} (h : Settles s) : lookup s.params (scan (clock s)).1 = foundKey s := by
  have hs : Settles (clock s) := h
  rw [scan_found hs]
  rfl

@[simp] theorem scan_rowOut (s : State) : (scan s).2.rowOut = 0#4 := scanRows_rowOut scanOrder s

/-- What a poll reads or keeps across its scan: the detector, the driver's lines and the responses (R150). -/
theorem scan_keeps (s : State) :
    (scan s).2.edgePrev = s.edgePrev ∧ (scan s).2.data = s.data ∧ (scan s).2.clk = s.clk ∧
      (scan s).2.latch = s.latch ∧ (scan s).2.responses = s.responses := by
  obtain ⟨hdata, hclk, hlatch, -, -, -, hedge, -, -, hresponses, -, -, -⟩ := scanRows_frame scanOrder s
  exact ⟨hedge, hdata, hclk, hlatch, hresponses⟩

/-- A poll is its scan and its response to the key found (R150, R151). -/
theorem exec_of_poll {i : Instr} (hi : i = .poll ∨ i = .pollE) (s : State) :
    exec i s = .next (complete i (lookup s.params (scan (clock s)).1) (scan (clock s)).2) := by
  obtain rfl | rfl := hi
  · rfl
  · rfl

/-- Settles O13: a poll responds after its scan, with the key looked up and no fire. -/
theorem pollReportsTheRawKey : Obligations.PollReportsTheRawKey := by
  refine ⟨rfl, fun s => ⟨_, exec_of_poll (.inl rfl) s, fun hs => ?_, ?_⟩⟩
  · simp [complete, completePoll, lookup_scan_clock hs]
  · simp [complete, completePoll, scan_keeps]

/-- Settles O14: as `POLL`, with the detector run on the key looked up. -/
theorem pollEReportsTheKeyAndTheFire : Obligations.PollEReportsTheKeyAndTheFire := by
  refine ⟨rfl, fun s => ⟨_, exec_of_poll (.inr rfl) s, fun hs => ?_, ?_⟩⟩
  · simp [complete, completePollE, lookup_scan_clock hs, scan_keeps, edge_fires, edge_eq]
  · simp [complete, completePollE, scan_keeps]

end Sys2Proof.Proofs
end

section
/-! The rows between commands (R147): every scan parks them, no other command moves them, and a command in flight ends
only in the response, before which they are low already. -/

namespace Sys2Proof.Proofs

open Sys2Proof.Machine Sys2Proof.Laws

/-! The end of a command. -/

@[simp] theorem complete_rowOut (i : Instr) (found : Option Key) (s : State) :
    (complete i found s).rowOut = s.rowOut := by
  cases i <;> rfl

/-- Every command ends its trace with the response of its result (R46). -/
theorem complete_trace (i : Instr) (found : Option Key) (s : State) :
    (complete i found s).trace = s.trace ++ [.respond (complete i found s).result] := by
  cases i <;> rfl

/-! The end of a poll's trace. -/

/-- The last event of a scan is the drive of all rows low, wherever it stops. -/
theorem scanRows_trace_parks (rows : List (Fin nRows)) (s : State) :
    ∃ l, (scanRows rows s).2.trace = s.trace ++ l ++ [.driveRows 0#4] := by
  induction rows generalizing s with
  | nil => exact ⟨[], by simp [scanRows]⟩
  | cons r rows ih =>
    have hrow : (afterSample (visitRow r s)).trace = s.trace ++
        [.driveRows (onehot4 r), .hold s.params.settleTicks, .sample (columnSample (visitRow r s))] := by simp
    simp only [scanRows]
    split
    · exact ⟨_, by rw [driveRows_trace, hrow]⟩
    · obtain ⟨l, hl⟩ := ih (afterSample (visitRow r s))
      exact ⟨_, by rw [hl, hrow, List.append_assoc s.trace]⟩

/-- Both polls end in the low drive and the response, with the rows low. -/
theorem exec_poll_parks {i : Instr} (hi : i = .poll ∨ i = .pollE) (s : State) :
    ∃ t l, exec i s = .next t ∧ t.trace = s.trace ++ l ++ [.driveRows 0#4, .respond t.result] ∧ t.rowOut = 0#4 := by
  obtain ⟨l, hl⟩ := scanRows_trace_parks scanOrder (clock s)
  refine ⟨_, l, exec_of_poll hi s, ?_, by simp⟩
  rw [complete_trace, scan, hl]
  simp

/-! One whole command. -/

theorem shiftBits_rowOut (b : Image) (order : List (Fin imgWidth)) (s : State) :
    (shiftBits b order s).rowOut = s.rowOut := by
  induction order generalizing s with
  | nil => rfl
  | cons i order ih => exact ih (shiftBit b i s)

theorem writeSequence_rowOut (b : Image) (s : State) : (writeSequence b s).rowOut = s.rowOut := by
  simp [writeSequence, pulseLatch, shiftBits_rowOut]

theorem rowOut_of_exec {i : Instr} {s t : State} (hrows : s.rowOut = 0#4) (h : exec i s = .next t) :
    t.rowOut = 0#4 := by
  cases i with
  | poll => cases (exec_of_poll (.inl rfl) s).symm.trans h; simp
  | pollE => cases (exec_of_poll (.inr rfl) s).symm.trans h; simp
  | edgeNone => cases h; exact hrows
  | edge k => cases h; exact hrows
  | writeArray b => cases h; exact (writeSequence_rowOut b (clock s)).trans hrows

/-! One tick. -/

theorem holdTick_seq_ne_none (tickAt : Nat → State → State) (n : Nat) (after : Phase) (q : Sequencer) (s : State) :
    (holdTick tickAt n after q s).seq ≠ none := by
  unfold holdTick
  split <;> simp

theorem sampleTick_seq_ne_none (q : Sequencer) (s : State) : (sampleTick q s).seq ≠ none := by
  unfold sampleTick
  dsimp only
  split_ifs <;> simp

theorem bitEndTick_seq_ne_none (q : Sequencer) (s : State) : (bitEndTick q s).seq ≠ none := by
  unfold bitEndTick
  split <;> simp

/-- A command in flight ends only in its response (R46). -/
theorem phase_of_seqTick_ends {q : Sequencer} {s : State} (h : (seqTick q s).seq = none) : q.phase = .respond := by
  unfold seqTick at h
  cases hphase : q.phase with simp only [hphase] at h
  | driveRow | park | setData | clkHigh | clkLow | latchHigh | latchLow => cases h
  | settle | holdData | holdClkHigh | holdLatchHigh | holdLatchLow => exact absurd h (holdTick_seq_ne_none _ _ _ q s)
  | sample => exact absurd h (sampleTick_seq_ne_none q s)
  | holdClkLow => exact absurd h (bitEndTick_seq_ne_none q s)
  | respond => rfl

theorem rowOut_idle {s : State} (h : linesConsistent s = true) (hs : s.seq = none) : s.rowOut = 0#4 := by
  simp only [linesConsistent, hs, Bool.and_eq_true, beq_iff_eq] at h
  obtain ⟨⟨hrows, -⟩, -⟩ := h
  exact hrows

theorem rowOut_busy {s : State} {q : Sequencer} (h : linesConsistent s = true) (hs : s.seq = some q) :
    s.rowOut = q.rowsExpected := by
  simp only [linesConsistent, hs, Bool.and_eq_true, beq_iff_eq] at h
  obtain ⟨⟨⟨-, hrows⟩, -⟩, -⟩ := h
  exact hrows

/-- With no command in flight afterwards, a tick that accepts none was an idle one or a response, both with the rows low
already. -/
theorem rowOut_of_runTick_ends {s : State} (hlines : linesConsistent s = true) (hend : (runTick s).seq = none) :
    (runTick s).rowOut = 0#4 := by
  cases hs : s.seq with
  | none =>
    rw [runTick_idle hs]
    exact rowOut_idle hlines hs
  | some q =>
    rw [runTick_busy hs] at hend ⊢
    have hphase := phase_of_seqTick_ends hend
    have hrows := rowOut_busy hlines hs
    simp only [Sequencer.rowsExpected, hphase] at hrows
    simp [seqTick, hphase, hrows]

theorem rowOut_of_tick_ends {pins : Pins} {s t : State} (hlines : linesConsistent s = true) (h : tick pins s = .goes t)
    (hend : t.seq = none) : t.rowOut = 0#4 := by
  obtain ⟨-, rfl⟩ | ⟨-, -, i, -, rfl⟩ | ⟨-, rfl⟩ := tick_cases h
  · exact applyReset_rowOut s
  · simp at hend
  · exact rowOut_of_runTick_ends hlines hend

/-- Settles O57: both polls park the rows, and a step is a whole command or one tick, neither of which leaves a row high
with no command in flight. -/
theorem rowsIdleAfterPoll : Obligations.RowsIdleAfterPoll := by
  refine ⟨fun s i hi => exec_poll_parks hi s, fun s t hinv h hend => ?_⟩
  obtain ⟨w, i, rest, -, hseq, -, hexec⟩ | ⟨-, htick⟩ | ⟨w, rest, -, -, htick⟩ | ⟨pins, rest, -, htick⟩ := step_cases h
  · exact rowOut_of_exec (s := { s with host := rest }) (rowOut_idle hinv.lines hseq) hexec
  · exact rowOut_of_tick_ends hinv.lines htick hend
  · exact rowOut_of_tick_ends hinv.lines htick hend
  · exact rowOut_of_tick_ends (s := { s with host := rest }) hinv.lines htick hend

end Sys2Proof.Proofs
end

section
/-! The edge detector (R181) and `EDGE_PREV` (R184): the edge function, what of a tick or of a command leaves the previous
key alone, and a scan that never looks at it. -/

namespace Sys2Proof.Proofs

open Sys2Proof.Machine Sys2Proof.Laws Sys2Proof.Expect

/-! The edge function. -/

/-- R181's equivalent form: the key fires when it is there and is not the one before, and the input is the next previous
key. -/
theorem edge_eq_fired (prev x : Option Key) : edge prev x = (fired prev x, x) :=
  Prod.ext (edge_fires prev x) (edge_eq prev x)

/-- Settles O22: the rows of R181's table are the values of its equivalent form. -/
theorem edgeFunctionCases : Obligations.EdgeFunctionCases := by
  refine ⟨rfl, fun _ => rfl, fun k => ?_, fun j k hjk => ?_, fun _ => rfl, edge_eq_fired⟩
  · simp [edge_eq_fired, fired]
  · simp [edge_eq_fired, fired, hjk.symm]

/-! The commands that run the detector, and the end of the others. -/

/-- The command runs the edge detector: `POLL.E` or one of the forms of `EDGE` (R184). -/
def RunsDetector (i : Instr) : Prop := i = .pollE ∨ ∃ x, i = .edgeOf x

theorem not_runsDetector_iff {i : Instr} : ¬ RunsDetector i ↔ i = .poll ∨ ∃ b, i = .writeArray b := by
  constructor
  · intro h
    cases i with
    | poll => exact .inl rfl
    | pollE => exact absurd (.inl rfl) h
    | edgeNone => exact absurd (.inr ⟨none, rfl⟩) h
    | edge k => exact absurd (.inr ⟨some k, rfl⟩) h
    | writeArray b => exact .inr ⟨b, rfl⟩
  · rintro (rfl | ⟨b, rfl⟩) (h | ⟨_ | k, h⟩) <;> cases h

theorem complete_edgePrev {i : Instr} (h : ¬ RunsDetector i) (found : Option Key) (s : State) :
    (complete i found s).edgePrev = s.edgePrev := by
  obtain rfl | ⟨b, rfl⟩ := not_runsDetector_iff.mp h
  · rfl
  · rfl

/-! One tick. -/

theorem holdTick_edgePrev {tickAt : Nat → State → State} (h : OnlyTheKeypad tickAt) (n : Nat) (after : Phase)
    (q : Sequencer) (s : State) : (holdTick tickAt n after q s).edgePrev = s.edgePrev := by
  have htick : (tickAt q.hold s).edgePrev = s.edgePrev := by rw [h]
  unfold holdTick
  split
  · exact htick
  · exact htick

theorem sampleTick_edgePrev (q : Sequencer) (s : State) : (sampleTick q s).edgePrev = s.edgePrev := by
  unfold sampleTick
  dsimp only
  split_ifs <;> rfl

theorem bitEndTick_edgePrev (q : Sequencer) (s : State) : (bitEndTick q s).edgePrev = s.edgePrev := by
  unfold bitEndTick
  split <;> rfl

/-- Only the response of a command that runs the detector writes the previous key. -/
theorem seqTick_edgePrev {q : Sequencer} (hq : q.phase = .respond → ¬ RunsDetector q.cmd) (s : State) :
    (seqTick q s).edgePrev = s.edgePrev := by
  unfold seqTick
  cases hphase : q.phase with
  | driveRow | park | setData | clkHigh | clkLow | latchHigh | latchLow => rfl
  | settle => exact holdTick_edgePrev settleTick_onlyTheKeypad _ _ q s
  | holdData | holdClkHigh | holdLatchHigh | holdLatchLow => exact holdTick_edgePrev clock_onlyTheKeypad _ _ q s
  | sample => exact sampleTick_edgePrev q s
  | holdClkLow => exact bitEndTick_edgePrev q s
  | respond => exact complete_edgePrev (hq hphase) q.pending s

/-- The running command, if there is one, is not about to respond with the detector's answer. -/
def NoDetectorResponse (s : State) : Prop := ∀ q, s.seq = some q → q.phase = .respond → ¬ RunsDetector q.cmd

theorem runTick_edgePrev {s : State} (hs : NoDetectorResponse s) : (runTick s).edgePrev = s.edgePrev := by
  cases hseq : s.seq with
  | none => rw [runTick_idle hseq]; rfl
  | some q => rw [runTick_busy hseq]; exact seqTick_edgePrev (hs q hseq) _

theorem edgePrev_of_tick {pins : Pins} {s t : State} (hrst : pins.rst = false) (hs : NoDetectorResponse s)
    (h : tick pins s = .goes t) : t.edgePrev = s.edgePrev := by
  obtain ⟨hreset, -⟩ | ⟨-, -, i, -, rfl⟩ | ⟨-, rfl⟩ := tick_cases h
  · cases hrst.symm.trans hreset
  · exact accept_edgePrev i s
  · exact runTick_edgePrev hs

/-! One whole command. -/

theorem shiftBits_edgePrev (b : Image) (order : List (Fin imgWidth)) (s : State) :
    (shiftBits b order s).edgePrev = s.edgePrev := by
  induction order generalizing s with
  | nil => rfl
  | cons i order ih => exact ih (shiftBit b i s)

theorem writeSequence_edgePrev (b : Image) (s : State) : (writeSequence b s).edgePrev = s.edgePrev :=
  shiftBits_edgePrev b (shiftOrder s.params.shiftOrder) s

/-- `POLL` and `WRITE_ARRAY` complete and leave the previous key (R184). -/
theorem exec_keeps_edgePrev {i : Instr} (h : ¬ RunsDetector i) (s : State) :
    ∃ t, exec i s = .next t ∧ t.edgePrev = s.edgePrev := by
  obtain rfl | ⟨b, rfl⟩ := not_runsDetector_iff.mp h
  · obtain ⟨hedge, -⟩ := scan_keeps (clock s)
    exact ⟨_, exec_of_poll (.inl rfl) s, hedge⟩
  · exact ⟨_, rfl, writeSequence_edgePrev b (clock s)⟩

theorem edgePrev_of_exec {i : Instr} {s t : State} (hi : ¬ RunsDetector i) (h : exec i s = .next t) :
    t.edgePrev = s.edgePrev := by
  obtain ⟨u, hu, hedge⟩ := exec_keeps_edgePrev hi s
  cases hu.symm.trans h
  exact hedge

/-! One step. -/

/-- An idle block that is handed a word the decoder accepts runs its command (R45). -/
theorem fetch_of_decode_command {s : State} {w : Word} {i : Instr} {rest : List HostMove} (hseq : s.seq = none)
    (hhost : s.host = .command w :: rest) (hdecode : decode w = .command i) :
    fetch s = .run i { s with host := rest } := by
  simp [fetch, hhost, State.busy, hseq, hdecode]

theorem step_of_resets {s : State} (h : resets s) :
    ∃ rest, step s = .next (applyReset { s with host := rest }) := by
  obtain ⟨pins, rest, hhost, hrst⟩ := h
  exact ⟨rest, by simp [step, fetch, hhost, tick, hrst, Fetched.ofTick]⟩

theorem activates_of_fetch {s u : State} {i : Instr} (hi : RunsDetector i) (h : fetch s = .run i u) : activates s := by
  obtain rfl | ⟨x, rfl⟩ := hi
  · exact .inl ⟨u, h⟩
  · exact .inr (.inl ⟨x, u, h⟩)

theorem noDetectorResponse_of_not_activates {s : State} (h : ¬ activates s) : NoDetectorResponse s :=
  fun q hq hphase hcmd => h (.inr (.inr ⟨q, hq, hphase, hcmd⟩))

/-- A step that neither activates the detector nor resets the block leaves the previous key (R184). -/
theorem edgePrev_of_step {s t : State} (h : step s = .next t) (hact : ¬ activates s) (hreset : ¬ resets s) :
    t.edgePrev = s.edgePrev := by
  have hs := noDetectorResponse_of_not_activates hact
  obtain ⟨w, i, rest, hhost, hseq, hdecode, hexec⟩ | ⟨-, htick⟩ | ⟨w, rest, -, -, htick⟩ | ⟨pins, rest, hhost, htick⟩ :=
    step_cases h
  · have hi : ¬ RunsDetector i := fun hi => hact (activates_of_fetch hi (fetch_of_decode_command hseq hhost hdecode))
    exact edgePrev_of_exec (s := { s with host := rest }) hi hexec
  · exact edgePrev_of_tick rfl hs htick
  · exact edgePrev_of_tick rfl hs htick
  · have hrst : pins.rst = false := Bool.eq_false_iff.mpr fun hrst => hreset ⟨pins, rest, hhost, hrst⟩
    exact edgePrev_of_tick (s := { s with host := rest }) hrst hs htick

/-! A scan does not look at the previous key. -/

theorem settleTick_withEdgePrev (x : Option Key) (left : Nat) (s : State) :
    settleTick left { s with edgePrev := x } = { settleTick left s with edgePrev := x } := by
  unfold settleTick
  split <;> rfl

theorem passTicks_withEdgePrev (x : Option Key) (n : Nat) (s : State) :
    passTicks settleTick n { s with edgePrev := x } = { passTicks settleTick n s with edgePrev := x } := by
  induction n generalizing s with
  | zero => rfl
  | succ n ih => rw [passTicks, settleTick_withEdgePrev, ih, passTicks]

theorem visitRow_withEdgePrev (x : Option Key) (r : Fin nRows) (s : State) :
    visitRow r { s with edgePrev := x } = { visitRow r s with edgePrev := x } := by
  have hvisit (u : State) : visitRow r u = State.logEvent (.hold u.params.settleTicks)
      (passTicks settleTick u.params.settleTicks (driveRows (onehot4 r) u)) :=
    waitFor_eq_ticks settleTick_onlyTheKeypad _ _
  rw [hvisit, hvisit]
  exact congrArg (State.logEvent (.hold s.params.settleTicks))
    (passTicks_withEdgePrev x s.params.settleTicks (driveRows (onehot4 r) s))

theorem scanRows_withEdgePrev (x : Option Key) (rows : List (Fin nRows)) (s : State) :
    scanRows rows { s with edgePrev := x } = ((scanRows rows s).1, { (scanRows rows s).2 with edgePrev := x }) := by
  induction rows generalizing s with
  | nil => rfl
  | cons r rows ih =>
    have hsample : columnSample (visitRow r { s with edgePrev := x }) = columnSample (visitRow r s) := by
      rw [visitRow_withEdgePrev]
      rfl
    have hafter : afterSample (visitRow r { s with edgePrev := x }) =
        { afterSample (visitRow r s) with edgePrev := x } := by
      rw [visitRow_withEdgePrev]
      rfl
    simp only [scanRows, hsample, hafter]
    split
    · rfl
    · exact ih (afterSample (visitRow r s))

/-- The key a poll looks up is the same whatever the previous key is. -/
theorem lookup_scan_withEdgePrev (x : Option Key) (s : State) :
    lookup s.params (scan (clock { s with edgePrev := x })).1 = lookup s.params (scan (clock s)).1 := by
  have hscan := scanRows_withEdgePrev x scanOrder (clock s)
  exact congrArg (fun found => lookup s.params found.1) hscan

/-- The low byte of a result holds the key found alone (R107). -/
theorem resultWord_low (key fire : Option Key) : (resultWord key fire).extractLsb' 0 8 = 0b000#3 ++ encKey key :=
  calc (resultWord key fire).extractLsb' 0 8
    _ = ((0b000#3 ++ encKey fire) ++ (0b000#3 ++ encKey key)).extractLsb' 0 8 :=
      congrArg (BitVec.extractLsb' 0 8) BitVec.append_assoc
    _ = 0b000#3 ++ encKey key := BitVec.extractLsb'_append_eq_right

/-- Settles O27: what a step does to the previous key, by the kinds of step, and the key a poll looks up, by its scan. -/
theorem onlyActivationOrResetChangesEdgePrev : Obligations.OnlyActivationOrResetChangesEdgePrev := by
  refine ⟨fun s t h => ⟨edgePrev_of_step h, fun hreset => ?_⟩, fun s b => ?_, fun s w rest hseq hhost hword t h => ?_,
    fun s x => ?_⟩
  · obtain ⟨rest, hstep⟩ := step_of_resets hreset
    cases hstep.symm.trans h
    rfl
  · obtain ⟨t, ht, htedge⟩ := exec_keeps_edgePrev (not_runsDetector_iff.mpr (.inl rfl)) s
    obtain ⟨u, hu, huedge⟩ := exec_keeps_edgePrev (not_runsDetector_iff.mpr (.inr ⟨b, rfl⟩)) s
    exact ⟨t, u, ht, hu, htedge, huedge⟩
  · cases (step_of_decode_reserved hseq hhost ((reservedWord_iff_decode w).mp hword)).symm.trans h
  · refine ⟨_, _, _, _, exec_of_poll (.inl rfl) s, exec_of_poll (.inl rfl) _, ?_, exec_of_poll (.inr rfl) s,
      exec_of_poll (.inr rfl) _, ?_⟩
    · simp [complete, completePoll, lookup_scan_withEdgePrev]
    · simp [complete, completePollE, lookup_scan_withEdgePrev, resultWord_low]

end Sys2Proof.Proofs
end

section
/-! The shift-register driver's lines (R201, R202, R206): the events that the bits and the latch pulse add to the trace,
and the levels they leave on `DATA`, `CLK` and `LATCH`. -/

namespace Sys2Proof.Proofs

open Sys2Proof.Machine Sys2Proof.Laws Sys2Proof.Expect

/-! The events. -/

theorem shiftBit_trace (b : Image) (i : Fin imgWidth) (s : State) :
    (shiftBit b i s).trace = s.trace ++ bitEvents s.params.holdTicks b i := by
  simp [shiftBit, bitEvents]

/-- The bits add their events in the order in which they are shifted. -/
theorem shiftBits_trace (b : Image) (order : List (Fin imgWidth)) (s : State) :
    (shiftBits b order s).trace = s.trace ++ order.flatMap (bitEvents s.params.holdTicks b) := by
  induction order generalizing s with
  | nil => simp [shiftBits_nil]
  | cons i order ih =>
    rw [shiftBits_cons, ih, shiftBit_trace, shiftBit_params, List.append_assoc, List.flatMap_cons]

theorem pulseLatch_trace (s : State) :
    (pulseLatch s).trace = s.trace ++
      [.drive .latch true, .hold s.params.holdTicks, .drive .latch false, .hold s.params.holdTicks] := by
  simp [pulseLatch]

theorem writeSequence_trace (b : Image) (s : State) :
    (writeSequence b s).trace = s.trace ++ writeEvents s.params b := by
  rw [writeSequence, pulseLatch_trace, shiftBits_trace, shiftBits_params, List.append_assoc, writeEvents]

/-! The levels. -/

theorem shiftBits_concat (b : Image) (order : List (Fin imgWidth)) (i : Fin imgWidth) (s : State) :
    shiftBits b (order ++ [i]) s = shiftBit b i (shiftBits b order s) := by
  simp [shiftBits]

theorem shiftOrder_eq_concat_last (o : ShiftOrder) : shiftOrder o = (shiftOrder o).dropLast ++ [lastElement o] := by
  cases o <;> rfl

/-- All eight bits end in the bit of the last element. -/
theorem shiftBits_shiftOrder (b : Image) (o : ShiftOrder) (s : State) :
    shiftBits b (shiftOrder o) s = shiftBit b (lastElement o) (shiftBits b (shiftOrder o).dropLast s) := by
  rw [← shiftBits_concat, ← shiftOrder_eq_concat_last]

/-- The latch pulse leaves the data line as the last bit left it (R202). -/
theorem writeSequence_data (b : Image) (s : State) :
    (writeSequence b s).data = imageElement b (lastElement s.params.shiftOrder) :=
  calc (writeSequence b s).data
    _ = (shiftBits b (shiftOrder s.params.shiftOrder) s).data := rfl
    _ = imageElement b (lastElement s.params.shiftOrder) := by rw [shiftBits_shiftOrder, shiftBit_data]

/-- The latch pulse leaves the clock line low, as every bit leaves it (R201, R202). -/
theorem writeSequence_clk (b : Image) (s : State) : (writeSequence b s).clk = false :=
  calc (writeSequence b s).clk
    _ = (shiftBits b (shiftOrder s.params.shiftOrder) s).clk := rfl
    _ = false := by rw [shiftBits_shiftOrder, shiftBit_clk]

theorem writeSequence_latch (b : Image) (s : State) : (writeSequence b s).latch = false := rfl

/-! The whole command. -/

/-- Settles O30: the line sequence adds the events of the eight bits and of the latch pulse, and the end of the command
adds the response. -/
theorem writeLineTrace : Obligations.WriteLineTrace := by
  refine fun s b => ⟨completeWrite (writeSequence b (clock s)), rfl, ?_, fun h => ?_, fun h => ?_⟩
  · have hseq : (writeSequence b (clock s)).trace = s.trace ++ writeEvents s.params b :=
      writeSequence_trace b (clock s)
    simp [completeWrite, resultWord_none, hseq]
  · rw [h]; rfl
  · rw [h]; rfl

/-- Settles O29: the line sequence leaves `DATA` at the last element shifted and pulls the clock and the latch low, and
the end of the command drives no line. -/
theorem dataLineAfterWrite : Obligations.DataLineAfterWrite := by
  intro s b
  have hdata : (writeSequence b (clock s)).data = imageElement b (lastElement s.params.shiftOrder) :=
    writeSequence_data b (clock s)
  refine ⟨completeWrite (writeSequence b (clock s)), rfl, fun h => ?_, fun h => ?_, writeSequence_clk b (clock s),
    writeSequence_latch b (clock s)⟩
  · rw [h] at hdata
    exact hdata
  · rw [h] at hdata
    exact hdata

end Sys2Proof.Proofs
end

section
/-! No exceptions (R240) and reset before acceptance (R245): every command ends in its response, only the loss of the
platform is a fault, and a tick with `rst = 1` is a reset, after which the word still presented is accepted. -/

namespace Sys2Proof.Proofs

open Sys2Proof.Machine Sys2Proof.Laws

/-! Every command ends in its response. -/

/-- The end of a command is its one response, which clears `BUSY` (R46). -/
theorem complete_responds (i : Instr) (found : Option Key) (s : State) :
    (complete i found s).responses = s.responses ++ [(complete i found s).result] ∧
      (complete i found s).rspValid = true ∧ (complete i found s).seq = none := by
  cases i <;> exact ⟨rfl, rfl, rfl⟩

theorem shiftBits_responses (b : Image) (order : List (Fin imgWidth)) (s : State) :
    (shiftBits b order s).responses = s.responses := by
  induction order generalizing s with
  | nil => rfl
  | cons i order ih => exact ih (shiftBit b i s)

theorem writeSequence_responses (b : Image) (s : State) : (writeSequence b s).responses = s.responses :=
  shiftBits_responses b (shiftOrder s.params.shiftOrder) s

/-- No command responds before its end: the scan and the line sequence give no response. -/
theorem exec_eq_complete_of_same_responses (i : Instr) (s : State) :
    ∃ found u, u.responses = s.responses ∧ exec i s = .next (complete i found u) := by
  have hscan : (scan (clock s)).2.responses = s.responses := by
    obtain ⟨-, -, -, -, hresponses⟩ := scan_keeps (clock s)
    exact hresponses
  cases i with
  | poll => exact ⟨_, _, hscan, exec_of_poll (.inl rfl) s⟩
  | pollE => exact ⟨_, _, hscan, exec_of_poll (.inr rfl) s⟩
  | edgeNone => exact ⟨none, clock s, rfl, rfl⟩
  | edge k => exact ⟨none, clock s, rfl, rfl⟩
  | writeArray b => exact ⟨none, _, writeSequence_responses b (clock s), rfl⟩

theorem exec_responds (i : Instr) (s : State) :
    ∃ t, exec i s = .next t ∧ t.responses = s.responses ++ [t.result] ∧ t.rspValid = true ∧ t.seq = none := by
  obtain ⟨found, u, hu, hexec⟩ := exec_eq_complete_of_same_responses i s
  obtain ⟨hresponses, hvalid, hseq⟩ := complete_responds i found u
  exact ⟨_, hexec, hu ▸ hresponses, hvalid, hseq⟩

/-! The only fault. -/

theorem ofTick_ne_lost (r : TickResult) : Fetched.ofTick r ≠ .lost := by
  cases r <;> exact nofun

/-- The platform is lost only at the host's move that says so (R243). -/
theorem host_of_fetch_lost {s : State} (h : fetch s = .lost) : ∃ rest, s.host = .platformLoss :: rest := by
  match hhost : s.host with
  | [] => simp [fetch, hhost, ofTick_ne_lost] at h
  | .command w :: rest =>
    simp only [fetch, hhost] at h
    split at h
    · exact absurd h (ofTick_ne_lost _)
    · split at h <;> cases h
  | .clock pins :: rest => simp [fetch, hhost, ofTick_ne_lost] at h
  | .platformLoss :: rest => exact ⟨rest, rfl⟩

/-- A step faults only where it is handed the platform's loss, since every command completes. -/
theorem fetch_of_step_fault {s : State} {r : Fault} (h : step s = .fault r) : fetch s = .lost := by
  unfold step at h
  cases hfetch : fetch s with simp only [hfetch] at h
  | run i u =>
    obtain ⟨t, ht, -⟩ := exec_responds i u
    cases ht.symm.trans h
  | ticked t => cases h
  | reservedAccepted w => cases h
  | lost => rfl

/-- Settles O45: every command ends in its response, and the only fault is the loss of the platform. -/
theorem everyCommandCompletesAndResponds : Obligations.EveryCommandCompletesAndResponds := by
  refine ⟨fun s i => exec_responds i s, fun s hs r hfault => ?_⟩
  obtain ⟨rest, hhost⟩ := host_of_fetch_lost (fetch_of_step_fault hfault)
  exact hs rest hhost

/-! Reset and acceptance. -/

theorem tick_of_rst {pins : Pins} (h : pins.rst = true) (s : State) : tick pins s = .goes (applyReset s) := by
  simp [tick, h]

theorem cmdReady_of_rst {pins : Pins} (h : pins.rst = true) (s : State) : cmdReady pins s = false := by
  simp [cmdReady, h]

/-- An idle block accepts the legal word the host presents (R45). -/
theorem tick_accepts {pins : Pins} {s : State} {i : Instr} (hrst : pins.rst = false) (hvalid : pins.cmdValid = true)
    (hdecode : decode pins.cmdWord = .command i) (hseq : s.seq = none) : tick pins s = .goes (accept i s) := by
  simp [tick, cmdReady, State.busy, hrst, hvalid, hdecode, hseq]

/-- Settles O51: the tick with `rst = 1` is a reset, which leaves the block idle, so the next one accepts the word. -/
theorem resetWinsOverACommand : Obligations.ResetWinsOverACommand := by
  intro s w i hdecode
  exact ⟨cmdReady_of_rst rfl s, applyReset s, tick_of_rst rfl s, applyReset_seq s,
    tick_accepts rfl rfl hdecode (applyReset_seq s)⟩

end Sys2Proof.Proofs
end

section
/-! The decoder's other faces (30_encoding.md): the round trip of R109 in both directions, the opcode table's rows, the
fields of a result word (R107), the words of the assembler's forms (R110, R111), and the default key map (R153). -/

namespace Sys2Proof.Proofs

open Sys2Proof.Machine Sys2Proof.Laws

/-- Settles O1: a command's word decodes to it, and a word that decodes to a command is that command's word. -/
theorem decodeInvertsEncode : Obligations.DecodeInvertsEncode :=
  fun i => ⟨decode_encode i, fun _ h => (decode_eq_command_iff.mp h).symm⟩

/-! The opcode table. -/

/-- A command's word has the fixed bits of its own row and of no other. -/
theorem rows_fitting_encode (i : Instr) :
    (opcodeRows.filter (fun row => row.fits (encode i))).map OpcodeRow.mnemonic = [i.mnemonic] := by
  cases i with
  | poll | pollE | edgeNone => decide
  | edge k => cases k <;> decide
  | writeArray b => revert b; decide

/-- The low `n` bits of a word, under their mask and as a field. -/
theorem and_lowMask {n : Nat} (w : Word) (h : n ≤ 16) :
    w &&& BitVec.ofNat 16 (2 ^ n - 1) = (w.extractLsb' 0 n).setWidth 16 := by
  have hpow : 2 ^ n ≤ 2 ^ 16 := Nat.pow_le_pow_right (by decide) h
  have hpos : 0 < 2 ^ n := Nat.two_pow_pos n
  have hmod : w.toNat % 2 ^ n < 2 ^ n := Nat.mod_lt _ hpos
  apply BitVec.eq_of_toNat_eq
  rw [BitVec.toNat_and, BitVec.toNat_ofNat, Nat.mod_eq_of_lt (by omega), Nat.and_two_pow_sub_one_eq_mod,
    BitVec.toNat_setWidth, BitVec.extractLsb'_toNat, Nat.shiftRight_zero]
  omega

/-- A word with some fixed bits is those bits and what it has outside their mask. -/
theorem eq_or_of_and_eq {w mask value : Word} (h : w &&& mask = value) : w = value ||| (w &&& ~~~mask) := by
  rw [← h]
  ext i hi
  cases hwi : w[i] <;> simp [hwi]

/-- `EDGE k` is `0x2010` and the key's code (R182). -/
theorem encode_edge_eq_or (k : Key) : encode (.edge k) = 0x2010#16 ||| (keyCode k).setWidth 16 := by
  cases k <;> rfl

/-- A word with the fixed bits of a row of the table is a command's word: the bits outside the mask are its operand. -/
theorem exists_encode_of_fits {row : OpcodeRow} (hrow : row ∈ opcodeRows) {w : Word} (h : row.fits w = true) :
    ∃ i, encode i = w := by
  have hw := eq_or_of_and_eq (beq_iff_eq.mp h)
  simp only [opcodeRows, List.mem_cons, List.not_mem_nil, or_false] at hrow
  obtain rfl | rfl | rfl | rfl | rfl := hrow
  · exact ⟨.poll, by simpa [encode] using hw.symm⟩
  · exact ⟨.pollE, by simpa [encode] using hw.symm⟩
  · exact ⟨.edgeNone, by simpa [encode, encKey] using hw.symm⟩
  · refine ⟨.edge (keyOf (w.extractLsb' 0 4)), ?_⟩
    rw [encode_edge_eq_or, keyCode_keyOf, ← and_lowMask w (by decide)]
    exact hw.symm
  · refine ⟨.writeArray (w.extractLsb' 0 8), ?_⟩
    rw [encode, ← and_lowMask w (by decide)]
    exact hw.symm

/-- Settles O3: a legal word is its command's word, which fits that command's row alone, and a word that fits a row is a
command's word. -/
theorem opcodeRowsSelectTheCommand : Obligations.OpcodeRowsSelectTheCommand := by
  refine fun w => ⟨fun i hdecode => ?_, fun hword => List.filter_eq_nil_iff.mpr fun row hrow hfits => ?_⟩
  · rw [← decode_eq_command_iff.mp hdecode]
    exact rows_fitting_encode i
  · have hlegal := (reservedWord_eq_false_iff w).mpr (exists_encode_of_fits hrow hfits)
    cases hlegal.symm.trans hword

/-- Settles O4: the decoder evaluated on the nine words. -/
theorem writtenOutWordsDecode : Obligations.WrittenOutWordsDecode := ⟨rfl, rfl, rfl, rfl, rfl, rfl, rfl, rfl, rfl⟩

/-! The fields of a result word. -/

theorem encKey_code (x : Option Key) : (encKey x).extractLsb' 0 4 = (x.map keyCode).getD 0#4 := by
  cases x with
  | none => rfl
  | some k => exact BitVec.extractLsb'_append_eq_right

/-- The code of a 5-bit field is its low four bits. -/
theorem extract_code (w : Word) (start : Nat) : (w.extractLsb' start 5).extractLsb' 0 4 = w.extractLsb' start 4 := by
  ext i hi
  simp only [BitVec.getElem_extractLsb', BitVec.getLsbD_extractLsb', Nat.zero_add, Bool.and_eq_right_iff_imp]
  intro _
  simp only [decide_eq_true_eq]
  omega

theorem keyCodeField_resultWord (key fire : Option Key) :
    keyCodeField (resultWord key fire) = (key.map keyCode).getD 0#4 := by
  rw [← encKey_code, ← resultWord_key key fire, extract_code]
  rfl

theorem fireCodeField_resultWord (key fire : Option Key) :
    fireCodeField (resultWord key fire) = (fire.map keyCode).getD 0#4 := by
  rw [← encKey_code, ← resultWord_fire key fire, extract_code]
  rfl

theorem resultWord_reserved_low (key fire : Option Key) : (resultWord key fire).extractLsb' 5 3 = 0#3 :=
  calc (resultWord key fire).extractLsb' 5 3
    _ = (0b000#3 ++ encKey fire ++ 0b000#3).extractLsb' 0 3 := BitVec.extractLsb'_append_eq_of_le (by decide)
    _ = 0#3 := BitVec.extractLsb'_append_eq_right

theorem resultWord_reserved_high (key fire : Option Key) : (resultWord key fire).extractLsb' 13 3 = 0#3 :=
  calc (resultWord key fire).extractLsb' 13 3
    _ = (0b000#3 ++ encKey fire ++ 0b000#3).extractLsb' 8 3 := BitVec.extractLsb'_append_eq_of_le (by decide)
    _ = (0b000#3 ++ encKey fire).extractLsb' 5 3 := BitVec.extractLsb'_append_eq_of_le (by decide)
    _ = 0#3 := BitVec.extractLsb'_append_eq_of_le (by decide)

/-- Settles O6: each field by the lemma of its name. -/
theorem resultWordFields : Obligations.ResultWordFields :=
  fun key fire => ⟨keyValid_resultWord key fire, keyCodeField_resultWord key fire, fireValid_resultWord key fire,
    fireCodeField_resultWord key fire, resultWord_reserved_low key fire, resultWord_reserved_high key fire⟩

/-! The assembler's words. -/

theorem imageElement_imageOfBits (bits : Vector Bool imgWidth) (i : Fin imgWidth) :
    imageElement (imageOfBits bits) i = bits[i] := by
  revert i
  simp only [imageElement, imageOfBits, BitVec.getLsbD_append, BitVec.getLsbD_ofBool]
  simp [Fin.forall_fin_succ]

/-- Settles O8: the array form's word is the encoder's word of the image its elements make. -/
theorem arrayLiteralGivesElements : Obligations.ArrayLiteralGivesElements :=
  fun bits => ⟨imageOfBits bits, decode_encode (.writeArray (imageOfBits bits)), imageElement_imageOfBits bits⟩

/-- Settles O7: the assembler evaluated on the pseudo-instructions and on the lines they stand for. -/
theorem pseudoInstructionWords : Obligations.PseudoInstructionWords := ⟨rfl, rfl, rfl, rfl, rfl, rfl⟩

/-- Settles O9: the reset ROM has no entry twice, and is read at the sixteen positions. -/
theorem defaultKeyMap : Obligations.DefaultKeyMap := ⟨by decide, rfl⟩

end Sys2Proof.Proofs
end

section
/-! What one tick of a running command can do (R36), said once: `LineTick` names, beside the sequencer's fields, the line
event or the waiting tick of each phase before the response, and the lemmas after it say what every one of them keeps. -/

namespace Sys2Proof.Proofs

open Sys2Proof.Machine Sys2Proof.Laws

/-- One tick of a hold: a row settles (R142), or a driver's line is held (R203). -/
def waitTick (q : Sequencer) (s : State) : State := if q.phase = .settle then settleTick q.hold s else clock s

/-- What a running command's tick does, before its response, to everything but the sequencer's fields. -/
inductive LineTick (q : Sequencer) (s : State) : State → Prop where
  | driveRow : q.phase = .driveRow → LineTick q s (driveRows (onehot4 q.row) s)
  | park : q.phase = .park → LineTick q s (driveRows 0#4 s)
  | sample : q.phase = .sample → LineTick q s (afterSample s)
  | data (v : Bool) : q.phase.scanning = false → LineTick q s (driveData v s)
  | clk (v : Bool) : q.phase.scanning = false → LineTick q s (driveClk v s)
  | latch (v : Bool) : q.phase.scanning = false → LineTick q s (driveLatch v s)
  | wait : q.phase ≠ .sample → LineTick q s (waitTick q s)
  | waitEnd (n : Nat) : q.phase ≠ .sample → LineTick q s (State.logEvent (.hold n) (waitTick q s))

/-- The tick goes on with the same command. -/
def GoesOn (q : Sequencer) (s t : State) : Prop :=
  ∃ q' u, t = State.setSeq q' u ∧ q'.cmd = q.cmd ∧ LineTick q s u

theorem goesOn_holdTick {tickAt : Nat → State → State} (n : Nat) (after : Phase) {q : Sequencer} {s : State}
    (hphase : q.phase ≠ .sample) (hwait : tickAt q.hold s = waitTick q s) :
    GoesOn q s (holdTick tickAt n after q s) := by
  unfold holdTick
  rw [hwait]
  split
  · exact ⟨_, _, rfl, rfl, .waitEnd n hphase⟩
  · exact ⟨_, _, rfl, rfl, .wait hphase⟩

theorem goesOn_sampleTick {q : Sequencer} {s : State} (hphase : q.phase = .sample) : GoesOn q s (sampleTick q s) := by
  unfold sampleTick
  dsimp only
  split_ifs <;> exact ⟨_, _, rfl, rfl, .sample hphase⟩

theorem afterBit_cmd (o : ShiftOrder) (q : Sequencer) : (afterBit o q).cmd = q.cmd := by
  unfold afterBit
  split <;> rfl

theorem goesOn_bitEndTick {q : Sequencer} {s : State} (hphase : q.phase = .holdClkLow) :
    GoesOn q s (bitEndTick q s) := by
  have hwait : clock s = waitTick q s := by simp [waitTick, hphase]
  have hsample : q.phase ≠ .sample := by simp [hphase]
  unfold bitEndTick
  rw [hwait]
  split
  · exact ⟨_, _, rfl, afterBit_cmd _ q, .waitEnd _ hsample⟩
  · exact ⟨_, _, rfl, rfl, .wait hsample⟩

/-- A running command's tick goes on, before its response phase. -/
theorem goesOn_seqTick {q : Sequencer} (s : State) (h : q.phase ≠ .respond) : GoesOn q s (seqTick q s) := by
  unfold seqTick
  cases hphase : q.phase with
  | driveRow => exact ⟨_, _, rfl, rfl, .driveRow hphase⟩
  | park => exact ⟨_, _, rfl, rfl, .park hphase⟩
  | sample => exact goesOn_sampleTick hphase
  | setData => exact ⟨_, _, rfl, rfl, .data _ (by rw [hphase]; rfl)⟩
  | clkHigh | clkLow => exact ⟨_, _, rfl, rfl, .clk _ (by rw [hphase]; rfl)⟩
  | latchHigh | latchLow => exact ⟨_, _, rfl, rfl, .latch _ (by rw [hphase]; rfl)⟩
  | settle | holdData | holdClkHigh | holdLatchHigh | holdLatchLow =>
    exact goesOn_holdTick _ _ (by simp [hphase]) (by simp [waitTick, hphase])
  | holdClkLow => exact goesOn_bitEndTick hphase
  | respond => exact absurd hphase h

/-- What a tick that accepts no command is: idle, a command that goes on, or a response. -/
theorem runTick_cases (s : State) :
    (s.seq = none ∧ runTick s = { clock s with rspValid := false }) ∨
    (∃ q, s.seq = some q ∧ q.phase ≠ .respond ∧ GoesOn q { s with rspValid := false } (runTick s)) ∨
    (∃ q, s.seq = some q ∧ q.phase = .respond ∧
      runTick s = complete q.cmd q.pending { s with rspValid := false }) := by
  obtain hs | ⟨q, hs⟩ := Option.eq_none_or_eq_some s.seq
  · exact .inl ⟨hs, runTick_idle hs⟩
  · rw [runTick_busy hs]
    by_cases hphase : q.phase = .respond
    · exact .inr (.inr ⟨q, hs, hphase, by simp [seqTick, hphase]⟩)
    · exact .inr (.inl ⟨q, hs, hphase, goesOn_seqTick _ hphase⟩)

/-! What every tick before the response keeps. -/

theorem waitTick_eq (q : Sequencer) (s : State) :
    waitTick q s =
      { s with colSync := (waitTick q s).colSync, switches := freeSwitches s, clocks := s.clocks + 1 } := by
  unfold waitTick
  split
  · apply State.ext <;> simp
  · rfl

/-- No tick before the response answers the host or touches the detector, the parameters and what is known of `Q`'s
window (R46, R184, R272). -/
theorem LineTick.keeps {q : Sequencer} {s u : State} (h : LineTick q s u) :
    u.result = s.result ∧ u.responses = s.responses ∧ u.rspValid = s.rspValid ∧ u.written = s.written ∧
      u.edgePrev = s.edgePrev ∧ u.params = s.params := by
  cases h with
  | driveRow | park | sample | data | clk | latch => exact ⟨rfl, rfl, rfl, rfl, rfl, rfl⟩
  | wait => rw [waitTick_eq]; exact ⟨rfl, rfl, rfl, rfl, rfl, rfl⟩
  | waitEnd => rw [waitTick_eq]; exact ⟨rfl, rfl, rfl, rfl, rfl, rfl⟩

/-- A tick of a scan does not touch the external register (R79). -/
theorem LineTick.keeps_register {q : Sequencer} {s u : State} (h : LineTick q s u) (hq : q.phase.scanning = true) :
    u.chain = s.chain ∧ u.latched = s.latched := by
  cases h with
  | driveRow | park | sample => exact ⟨rfl, rfl⟩
  | data v hphase | clk v hphase | latch v hphase => cases hphase.symm.trans hq
  | wait => rw [waitTick_eq]; exact ⟨rfl, rfl⟩
  | waitEnd => rw [waitTick_eq]; exact ⟨rfl, rfl⟩

/-- The contents of a register that does not follow its rules are unknown (X15, X16). -/
def ContentsUnknown (s : State) : Prop := s.chain = Stages.unknown ∧ s.latched = Stages.unknown

/-- A drive of a line leaves a faulty register's contents unknown, and every other tick leaves them as they were. -/
theorem LineTick.keeps_unknown {q : Sequencer} {s u : State} (h : LineTick q s u)
    (hf : s.params.registerFollows = false) (hs : ContentsUnknown s) : ContentsUnknown u := by
  cases h with
  | driveRow | park | sample => exact hs
  | data => exact ⟨keptContents_faulty hf _, keptContents_faulty hf _⟩
  | clk => exact ⟨chainAfterClk_faulty hf _ _ _ _, keptContents_faulty hf _⟩
  | latch => exact ⟨keptContents_faulty hf _, qAfterLatch_faulty hf _ _ _ _⟩
  | wait => rw [waitTick_eq]; exact hs
  | waitEnd => rw [waitTick_eq]; exact hs

end Sys2Proof.Proofs
end

section
/-! The invariant (Safety.lean): it holds right after reset, and every step keeps it, clause by clause: the lines stand as
the running phase says, `RESULT` is a result word (R107), and a faulty register's contents are unknown (X15, X16). -/

namespace Sys2Proof.Proofs

open Sys2Proof.Machine Sys2Proof.Laws

/-! The lines and the phase. -/

/-- The phases fit the command, and the lines stand as the phase says. -/
structure LinesStandAt (q : Sequencer) (s : State) : Prop where
  fits   : q.fitsCommand = true
  rowOut : s.rowOut = q.rowsExpected
  clk    : s.clk = q.phase.clkExpected
  latch  : s.latch = q.phase.latchExpected

/-- The rows, the clock and the latch are low. -/
structure LinesLow (s : State) : Prop where
  rowOut : s.rowOut = 0#4
  clk    : s.clk = false
  latch  : s.latch = false

theorem linesConsistent_idle_iff {s : State} (hs : s.seq = none) : linesConsistent s = true ↔ LinesLow s := by
  simp only [linesConsistent, hs, Bool.and_eq_true, beq_iff_eq, Bool.not_eq_true', and_assoc]
  exact ⟨fun ⟨hrow, hclk, hlatch⟩ => ⟨hrow, hclk, hlatch⟩, fun ⟨hrow, hclk, hlatch⟩ => ⟨hrow, hclk, hlatch⟩⟩

theorem linesConsistent_busy_iff {s : State} {q : Sequencer} (hs : s.seq = some q) :
    linesConsistent s = true ↔ LinesStandAt q s := by
  simp only [linesConsistent, hs, Bool.and_eq_true, beq_iff_eq, and_assoc]
  exact ⟨fun ⟨hfits, hrow, hclk, hlatch⟩ => ⟨hfits, hrow, hclk, hlatch⟩,
    fun ⟨hfits, hrow, hclk, hlatch⟩ => ⟨hfits, hrow, hclk, hlatch⟩⟩

/-- The command fits the next phase too, when that is the response or one of the same unit's. -/
theorem fitsCommand_next {q q' : Sequencer} (hfits : q.fitsCommand = true) (hcmd : q'.cmd = q.cmd)
    (himg : q'.img = q.img)
    (hphase : q'.phase = .respond ∨ q.phase ≠ .respond ∧ q'.phase.scanning = q.phase.scanning) :
    q'.fitsCommand = true := by
  unfold Sequencer.fitsCommand at hfits ⊢
  rw [hcmd, himg]
  obtain hresp | ⟨hresp, hscan⟩ := hphase
  · cases hc : q.cmd with simp_all [Phase.scanning]
  · cases hc : q.cmd with simp_all

/-- With the lines as they are, the next phase expects the same of them and fits the command. -/
theorem LinesStandAt.next {q q' : Sequencer} {s u : State} (h : LinesStandAt q s) (hfits : q'.fitsCommand = true)
    (hlines : u.rowOut = s.rowOut ∧ u.clk = s.clk ∧ u.latch = s.latch)
    (hrow : q'.rowsExpected = q.rowsExpected) (hclk : q'.phase.clkExpected = q.phase.clkExpected)
    (hlatch : q'.phase.latchExpected = q.phase.latchExpected) : LinesStandAt q' u := by
  obtain ⟨hurow, huclk, hulatch⟩ := hlines
  exact ⟨hfits, by rw [hurow, h.rowOut, hrow], by rw [huclk, h.clk, hclk], by rw [hulatch, h.latch, hlatch]⟩

theorem lines_of_onlyTheKeypad {tickAt : Nat → State → State} (htick : OnlyTheKeypad tickAt) (left : Nat) (s : State) :
    (tickAt left s).rowOut = s.rowOut ∧ (tickAt left s).clk = s.clk ∧ (tickAt left s).latch = s.latch := by
  rw [htick left s]
  exact ⟨rfl, rfl, rfl⟩

/-- A tick of a hold leaves the lines, and its last one leads to a phase that expects the same of them. -/
theorem linesConsistent_holdTick {tickAt : Nat → State → State} (htick : OnlyTheKeypad tickAt) {n : Nat} {after : Phase}
    {q : Sequencer} {s : State} (h : LinesStandAt q s) (hphase : q.phase ≠ .respond)
    (hfits : after = .respond ∨ after.scanning = q.phase.scanning)
    (hrow : ({ q with phase := after } : Sequencer).rowsExpected = q.rowsExpected)
    (hclk : after.clkExpected = q.phase.clkExpected) (hlatch : after.latchExpected = q.phase.latchExpected) :
    linesConsistent (holdTick tickAt n after q s) = true := by
  have hlines := lines_of_onlyTheKeypad htick q.hold s
  unfold holdTick
  split
  · exact (linesConsistent_busy_iff rfl).mpr (h.next (q' := { q with phase := after, hold := 0 })
      (fitsCommand_next h.fits rfl rfl (hfits.imp_right fun hscan => ⟨hphase, hscan⟩)) hlines hrow hclk hlatch)
  · exact (linesConsistent_busy_iff rfl).mpr (h.next (q' := { q with hold := q.hold - 1 })
      (fitsCommand_next h.fits rfl rfl (.inr ⟨hphase, rfl⟩)) hlines rfl rfl rfl)

/-- The row index of a scan goes up by one, so the row driven is the one before it. -/
theorem rowsExpected_nextRow {q : Sequencer} (hrow : q.row ≠ 3) :
    ({ q with phase := .driveRow, row := q.row + 1 } : Sequencer).rowsExpected = onehot4 q.row := by
  have hnext : ∀ r : Fin nRows, r ≠ 3 → (if r + 1 = 0 then 0#4 else onehot4 (r + 1 - 1)) = onehot4 r := by decide
  exact hnext q.row hrow

/-- A sample leaves the row driven, whichever way the scan goes on. -/
theorem linesConsistent_sampleTick {q : Sequencer} {s : State} (h : LinesStandAt q s) (hphase : q.phase = .sample) :
    linesConsistent (sampleTick q s) = true := by
  have hscan : q.phase.scanning = true := by rw [hphase]; rfl
  have hsample : q.rowsExpected = onehot4 q.row := by simp [Sequencer.rowsExpected, hphase]
  have hclk : q.phase.clkExpected = false := by rw [hphase]; rfl
  have hlatch : q.phase.latchExpected = false := by rw [hphase]; rfl
  have hnext {q' : Sequencer} (hcmd : q'.cmd = q.cmd) (himg : q'.img = q.img)
      (hphase' : q'.phase = .park ∨ q'.phase = .driveRow) (hrow : q'.rowsExpected = onehot4 q.row) :
      linesConsistent (State.setSeq q' (afterSample s)) = true := by
    refine (linesConsistent_busy_iff rfl).mpr (h.next (fitsCommand_next h.fits hcmd himg ?_) ⟨rfl, rfl, rfl⟩
      (hrow.trans hsample.symm) ?_ ?_)
    · rw [hscan, hphase]
      obtain hp | hp := hphase' <;> simp [hp, Phase.scanning]
    · rw [hclk]
      obtain hp | hp := hphase' <;> simp [hp, Phase.clkExpected]
    · rw [hlatch]
      obtain hp | hp := hphase' <;> simp [hp, Phase.latchExpected]
  unfold sampleTick
  dsimp only
  split_ifs with hseen hrow
  · exact hnext rfl rfl (.inl rfl) rfl
  · exact hnext rfl rfl (.inl rfl) rfl
  · exact hnext rfl rfl (.inr rfl) (rowsExpected_nextRow hrow)

theorem afterBit_cases (o : ShiftOrder) (q : Sequencer) :
    (∃ i, afterBit o q = { q with phase := .setData, bit := i, hold := 0 }) ∨
      afterBit o q = { q with phase := .latchHigh, hold := 0 } := by
  unfold afterBit
  split
  · exact .inl ⟨_, rfl⟩
  · exact .inr rfl

/-- The end of a bit leaves the clock and the latch low, for the next bit and for the latch pulse alike. -/
theorem linesConsistent_bitEndTick {q : Sequencer} {s : State} (h : LinesStandAt q s) (hphase : q.phase = .holdClkLow) :
    linesConsistent (bitEndTick q s) = true := by
  have hresp : q.phase ≠ .respond := by simp [hphase]
  unfold bitEndTick
  split
  · refine (linesConsistent_busy_iff rfl).mpr ?_
    obtain ⟨i, hnext⟩ | hnext := afterBit_cases s.params.shiftOrder q
    all_goals
      rw [hnext]
      exact h.next (fitsCommand_next h.fits rfl rfl (.inr ⟨hresp, by rw [hphase]; rfl⟩)) ⟨rfl, rfl, rfl⟩
        (by simp [Sequencer.rowsExpected, hphase]) (by rw [hphase]; rfl) (by rw [hphase]; rfl)
  · exact (linesConsistent_busy_iff rfl).mpr (h.next (q' := { q with hold := q.hold - 1 })
      (fitsCommand_next h.fits rfl rfl (.inr ⟨hresp, rfl⟩)) ⟨rfl, rfl, rfl⟩ rfl rfl rfl)

theorem complete_lines (i : Instr) (found : Option Key) (s : State) :
    (complete i found s).rowOut = s.rowOut ∧ (complete i found s).clk = s.clk ∧
      (complete i found s).latch = s.latch := by
  cases i <;> exact ⟨rfl, rfl, rfl⟩

/-- The response finds the lines low and leaves them. -/
theorem linesConsistent_complete {q : Sequencer} {s : State} (h : LinesStandAt q s) (hphase : q.phase = .respond) :
    linesConsistent (complete q.cmd q.pending s) = true := by
  obtain ⟨-, -, hseq⟩ := complete_responds q.cmd q.pending s
  obtain ⟨hrow, hclk, hlatch⟩ := complete_lines q.cmd q.pending s
  refine (linesConsistent_idle_iff hseq).mpr ⟨hrow.trans ?_, hclk.trans ?_, hlatch.trans ?_⟩
  · rw [h.rowOut, Sequencer.rowsExpected, hphase]
  · rw [h.clk, hphase]; rfl
  · rw [h.latch, hphase]; rfl

/-- A drive leaves its own line at the level its hold phase expects, and the others as they stood. -/
theorem linesConsistent_drive {q : Sequencer} {s u : State} (h : LinesStandAt q s) (hphase : q.phase ≠ .respond)
    {after : Phase} {n : Nat} (hfits : after = .respond ∨ after.scanning = q.phase.scanning)
    (hrow : u.rowOut = ({ q with phase := after } : Sequencer).rowsExpected) (hclk : u.clk = after.clkExpected)
    (hlatch : u.latch = after.latchExpected) :
    linesConsistent (State.setSeq { q with phase := after, hold := n } u) = true :=
  (linesConsistent_busy_iff (q := { q with phase := after, hold := n }) rfl).mpr
    ⟨fitsCommand_next h.fits rfl rfl (hfits.imp_right fun hscan => ⟨hphase, hscan⟩), hrow, hclk, hlatch⟩

/-- A running command's tick leaves the lines as its next phase says. -/
theorem linesConsistent_seqTick {q : Sequencer} {s : State} (h : LinesStandAt q s) :
    linesConsistent (seqTick q s) = true := by
  have hrow := h.rowOut
  have hclk := h.clk
  have hlatch := h.latch
  unfold seqTick
  cases hphase : q.phase with (simp only [Sequencer.rowsExpected, hphase] at hrow hclk hlatch)
  | driveRow => exact linesConsistent_drive h (by simp [hphase]) (.inr (by rw [hphase]; rfl)) rfl hclk hlatch
  | park => exact linesConsistent_drive h (by simp [hphase]) (.inl rfl) rfl hclk hlatch
  | setData => exact linesConsistent_drive h (by simp [hphase]) (.inr (by rw [hphase]; rfl)) hrow hclk hlatch
  | clkHigh | clkLow => exact linesConsistent_drive h (by simp [hphase]) (.inr (by rw [hphase]; rfl)) hrow rfl hlatch
  | latchHigh | latchLow => exact linesConsistent_drive h (by simp [hphase]) (.inr (by rw [hphase]; rfl)) hrow hclk rfl
  | settle =>
    exact linesConsistent_holdTick settleTick_onlyTheKeypad h (by simp [hphase]) (.inr (by rw [hphase]; rfl))
      (by simp [Sequencer.rowsExpected, hphase]) (by rw [hphase]; rfl) (by rw [hphase]; rfl)
  | holdData | holdClkHigh | holdLatchHigh =>
    exact linesConsistent_holdTick clock_onlyTheKeypad h (by simp [hphase]) (.inr (by rw [hphase]; rfl))
      (by simp [Sequencer.rowsExpected, hphase]) (by rw [hphase]; rfl) (by rw [hphase]; rfl)
  | holdLatchLow =>
    exact linesConsistent_holdTick clock_onlyTheKeypad h (by simp [hphase]) (.inl rfl)
      (by simp [Sequencer.rowsExpected, hphase]) (by rw [hphase]; rfl) (by rw [hphase]; rfl)
  | sample => exact linesConsistent_sampleTick h hphase
  | holdClkLow => exact linesConsistent_bitEndTick h hphase
  | respond => exact linesConsistent_complete h hphase

theorem linesConsistent_runTick {s : State} (h : linesConsistent s = true) : linesConsistent (runTick s) = true := by
  obtain hs | ⟨q, hs⟩ := Option.eq_none_or_eq_some s.seq
  · rw [runTick_idle hs]
    obtain ⟨hrow, hclk, hlatch⟩ := (linesConsistent_idle_iff hs).mp h
    exact (linesConsistent_idle_iff hs).mpr ⟨hrow, hclk, hlatch⟩
  · rw [runTick_busy hs]
    obtain ⟨hfits, hrow, hclk, hlatch⟩ := (linesConsistent_busy_iff hs).mp h
    exact linesConsistent_seqTick ⟨hfits, hrow, hclk, hlatch⟩

/-- A command starts with the lines low, as its first phase expects. -/
theorem linesConsistent_accept {s : State} (i : Instr) (h : LinesLow s) : linesConsistent (accept i s) = true := by
  refine (linesConsistent_busy_iff (accept_seq i s)).mpr ⟨?_, h.rowOut.trans ?_, h.clk.trans ?_, h.latch.trans ?_⟩
  · cases i <;> simp [startOf, Sequencer.fitsCommand, firstPhase, startImage, Phase.scanning]
  · cases i <;> rfl
  · cases i <;> rfl
  · cases i <;> rfl

theorem linesConsistent_of_tick {pins : Pins} {s t : State} (h : linesConsistent s = true) (ht : tick pins s = .goes t) :
    linesConsistent t = true := by
  obtain ⟨-, rfl⟩ | ⟨-, hseq, i, -, rfl⟩ | ⟨-, rfl⟩ := tick_cases ht
  · exact (linesConsistent_idle_iff (applyReset_seq s)).mpr ⟨rfl, rfl, rfl⟩
  · exact linesConsistent_accept i ((linesConsistent_idle_iff hseq).mp h)
  · exact linesConsistent_runTick h

theorem exec_lines {i : Instr} {s t : State} (hclk : s.clk = false) (hlatch : s.latch = false)
    (ht : exec i s = .next t) : t.clk = false ∧ t.latch = false := by
  obtain ⟨-, -, hscanClk, hscanLatch, -⟩ := scan_keeps (clock s)
  have hpoll (j : Instr) (found : Option Key) :
      (complete j found (scan (clock s)).2).clk = false ∧ (complete j found (scan (clock s)).2).latch = false := by
    obtain ⟨-, hdoneClk, hdoneLatch⟩ := complete_lines j found (scan (clock s)).2
    exact ⟨hdoneClk.trans (hscanClk.trans hclk), hdoneLatch.trans (hscanLatch.trans hlatch)⟩
  cases i with
  | poll => cases (exec_of_poll (.inl rfl) s).symm.trans ht; exact hpoll _ _
  | pollE => cases (exec_of_poll (.inr rfl) s).symm.trans ht; exact hpoll _ _
  | edgeNone | edge => cases ht; exact ⟨hclk, hlatch⟩
  | writeArray b => cases ht; exact ⟨writeSequence_clk b (clock s), writeSequence_latch b (clock s)⟩

/-- A whole command leaves the lines low where it finds them low, and the block idle. -/
theorem linesConsistent_of_exec {i : Instr} {s t : State} (h : LinesLow s) (ht : exec i s = .next t) :
    linesConsistent t = true := by
  obtain ⟨u, hu, -, -, hseq⟩ := exec_responds i s
  obtain ⟨hclk, hlatch⟩ := exec_lines h.clk h.latch ht
  cases hu.symm.trans ht
  exact (linesConsistent_idle_iff hseq).mpr ⟨rowOut_of_exec h.rowOut ht, hclk, hlatch⟩

/-! The result word. -/

theorem resultCanonical_complete (i : Instr) (found : Option Key) (s : State) :
    resultCanonical (complete i found s).result := by
  cases i <;> exact resultCanonical_resultWord _ _

theorem resultCanonical_of_exec {i : Instr} {s t : State} (ht : exec i s = .next t) : resultCanonical t.result := by
  obtain ⟨found, u, -, hexec⟩ := exec_eq_complete i s
  cases hexec.symm.trans ht
  exact resultCanonical_complete i found u

theorem resultCanonical_of_tick {pins : Pins} {s t : State} (h : resultCanonical s.result) (ht : tick pins s = .goes t) :
    resultCanonical t.result := by
  obtain ⟨-, rfl⟩ | ⟨-, -, i, -, rfl⟩ | ⟨-, rfl⟩ := tick_cases ht
  · exact ⟨none, none, resultWord_none.symm⟩
  · exact h
  · obtain ⟨-, hrun⟩ | ⟨q, -, -, q', u, hrun, -, hline⟩ | ⟨q, -, -, hrun⟩ := runTick_cases s
    · rw [hrun]; exact h
    · obtain ⟨hresult, -⟩ := hline.keeps
      rw [hrun, setSeq_result, hresult]
      exact h
    · rw [hrun]; exact resultCanonical_complete _ _ _

/-! A register that does not follow its rules. -/

theorem complete_register (i : Instr) (found : Option Key) (s : State) :
    (complete i found s).chain = s.chain ∧ (complete i found s).latched = s.latched := by
  cases i <;> exact ⟨rfl, rfl⟩

/-- The latch pulse alone leaves a faulty register's contents unknown. -/
theorem contentsUnknown_writeSequence (b : Image) {s : State} (hf : s.params.registerFollows = false) :
    ContentsUnknown (writeSequence b s) := by
  have hfaulty : (shiftBits b (shiftOrder s.params.shiftOrder) s).params.registerFollows = false := by
    rw [shiftBits_params, hf]
  exact ⟨keptContents_faulty hfaulty _, qAfterLatch_faulty hfaulty _ _ _ _⟩

theorem contentsUnknown_of_exec {i : Instr} {s t : State} (hf : s.params.registerFollows = false)
    (h : ContentsUnknown s) (ht : exec i s = .next t) : ContentsUnknown t := by
  obtain ⟨hchain, hlatched⟩ := h
  obtain ⟨-, -, -, hscanChain, hscanLatched, -⟩ := scanRows_frame scanOrder (clock s)
  have hpoll (j : Instr) (found : Option Key) : ContentsUnknown (complete j found (scan (clock s)).2) := by
    obtain ⟨hdoneChain, hdoneLatched⟩ := complete_register j found (scan (clock s)).2
    exact ⟨hdoneChain.trans (hscanChain.trans hchain), hdoneLatched.trans (hscanLatched.trans hlatched)⟩
  cases i with
  | poll => cases (exec_of_poll (.inl rfl) s).symm.trans ht; exact hpoll _ _
  | pollE => cases (exec_of_poll (.inr rfl) s).symm.trans ht; exact hpoll _ _
  | edgeNone | edge => cases ht; exact ⟨hchain, hlatched⟩
  | writeArray b => cases ht; exact contentsUnknown_writeSequence b (s := clock s) hf

theorem contentsUnknown_of_tick {pins : Pins} {s t : State} (hf : s.params.registerFollows = false)
    (h : ContentsUnknown s) (ht : tick pins s = .goes t) : ContentsUnknown t := by
  obtain ⟨-, rfl⟩ | ⟨-, -, i, -, rfl⟩ | ⟨-, rfl⟩ := tick_cases ht
  · exact ⟨keptContents_faulty hf _, qAfterLatch_faulty hf _ _ _ _⟩
  · exact h
  · obtain ⟨-, hrun⟩ | ⟨q, -, -, q', u, hrun, -, hline⟩ | ⟨q, -, -, hrun⟩ := runTick_cases s
    · rw [hrun]; exact h
    · rw [hrun]; exact hline.keeps_unknown hf h
    · obtain ⟨hchain, hlatched⟩ := complete_register q.cmd q.pending { s with rspValid := false }
      obtain ⟨hsChain, hsLatched⟩ := h
      rw [hrun]
      exact ⟨hchain.trans hsChain, hlatched.trans hsLatched⟩

/-! Ticks, commands and steps. -/

theorem inv_of_tick {pins : Pins} {s t : State} (h : Inv s) (ht : tick pins s = .goes t) : Inv t := by
  have hparams := (sameInputs_of_tick ht).params
  exact ⟨hparams ▸ h.params, linesConsistent_of_tick h.lines ht, resultCanonical_of_tick h.result ht,
    fun hf => contentsUnknown_of_tick (hparams ▸ hf) (h.external (hparams ▸ hf)) ht⟩

theorem inv_of_exec {i : Instr} {s t : State} (h : Inv s) (hseq : s.seq = none) (ht : exec i s = .next t) : Inv t := by
  have hparams := (sameInputs_of_exec ht).params
  exact ⟨hparams ▸ h.params, linesConsistent_of_exec ((linesConsistent_idle_iff hseq).mp h.lines) ht,
    resultCanonical_of_exec ht, fun hf => contentsUnknown_of_exec (hparams ▸ hf) (h.external (hparams ▸ hf)) ht⟩

/-- The invariant does not look at the host's moves. -/
theorem inv_withHost {s : State} (h : Inv s) (moves : List HostMove) : Inv { s with host := moves } :=
  ⟨h.params, h.lines, h.result, h.external⟩

/-- Settles O55: a step is a whole command from an idle block, or one tick, and each keeps every clause. -/
theorem stepKeepsTheInvariant : Obligations.StepKeepsTheInvariant := by
  intro s t h hstep
  obtain ⟨w, i, rest, -, hseq, -, hexec⟩ | ⟨-, htick⟩ | ⟨w, rest, -, -, htick⟩ | ⟨pins, rest, -, htick⟩ :=
    step_cases hstep
  · exact inv_of_exec (inv_withHost h rest) hseq hexec
  · exact inv_of_tick h htick
  · exact inv_of_tick h htick
  · exact inv_of_tick (inv_withHost h rest) htick

/-- The parameters of a reset block meet R7's constraints, whatever their free values are. -/
theorem wf_resetParams : State.reset.params.wf = true := by
  have hrom : State.reset.params.romInjective = true := by decide
  simp only [Params.wf, hrom, Bool.true_and, Bool.and_eq_true, decide_eq_true_eq]
  exact ⟨⟨Nat.le_add_left _ _, Nat.le_add_left _ _⟩, Nat.le_add_left _ _⟩

/-- Settles O54: the lines are low, `RESULT` is 0, and nothing is known of the external register. -/
theorem resetMeetsTheInvariant : Obligations.ResetMeetsTheInvariant :=
  ⟨wf_resetParams, rfl, ⟨none, none, resultWord_none.symm⟩, fun _ => ⟨rfl, rfl⟩⟩

end Sys2Proof.Proofs
end

section
/-! The column synchroniser and the keypad's switches in every tick (R32, R38, R162): what the column lines carry in a tick
that captures a row's answer, in a sample's own tick, and in every other one. -/

namespace Sys2Proof.Proofs

open Sys2Proof.Machine Sys2Proof.Laws Sys2Proof.Expect

/-- From `s` to `t` the columns pass on by one stage, with these switches closed and these lines entering. -/
def ColumnsPass (s t : State) (P : Switches) (lines : Nibble) : Prop :=
  t.switches = P ∧ t.colSync = #v[lines, s.colSync[0]]

/-- The running command is about to sample the columns. -/
def AboutToSample (s : State) : Prop := ∃ q, s.seq = some q ∧ q.phase = .sample

/-- What the columns do in the tick from `s` to `t`: a row's answer is captured, a sample is taken, or neither. -/
def ColumnTick (s t : State) : Prop :=
  (captures s ∧ ColumnsPass s t (freeSwitches s) (keypadAnswer s)) ∨
  (¬ captures s ∧ ColumnsPass s t (freeSwitches s) (columnLines s)) ∨
  (¬ captures s ∧ AboutToSample s ∧ ColumnsPass s t (upcoming s 0).switches (lateLines s))

theorem captures_iff {s : State} {q : Sequencer} (hs : s.seq = some q) :
    captures s ↔ q.phase = .settle ∧ q.hold = syncStages := by
  constructor
  · rintro ⟨q', hq', hcapture⟩
    cases hs.symm.trans hq'
    exact hcapture
  · exact fun hcapture => ⟨q, hs, hcapture⟩

theorem not_captures_idle {s : State} (hs : s.seq = none) : ¬ captures s := by
  rintro ⟨q, hq, -⟩
  cases hs.symm.trans hq

theorem not_captures_of_phase {s : State} {q : Sequencer} (hs : s.seq = some q) (hphase : q.phase ≠ .settle) :
    ¬ captures s :=
  fun h => hphase ((captures_iff hs).mp h).1

/-- A tick of a hold captures the row's answer exactly when it is the right tick of the row's settling. -/
theorem columnTick_waitTick {s : State} {q : Sequencer} (hs : s.seq = some q) : ColumnTick s (waitTick q s) := by
  by_cases hphase : q.phase = .settle
  · by_cases hleft : q.hold = syncStages
    · refine .inl ⟨(captures_iff hs).mpr ⟨hphase, hleft⟩, ?_⟩
      rw [waitTick, if_pos hphase, hleft, settleTick_capture]
      exact ⟨rfl, rfl⟩
    · refine .inr (.inl ⟨fun h => hleft ((captures_iff hs).mp h).2, ?_⟩)
      rw [waitTick, if_pos hphase, settleTick_other hleft]
      exact ⟨rfl, rfl⟩
  · refine .inr (.inl ⟨not_captures_of_phase hs hphase, ?_⟩)
    rw [waitTick, if_neg hphase]
    exact ⟨rfl, rfl⟩

theorem LineTick.columnTick {s u : State} {q : Sequencer} (hs : s.seq = some q) (h : LineTick q s u) :
    ColumnTick s u := by
  cases h with
  | driveRow hphase | park hphase =>
    exact .inr (.inl ⟨not_captures_of_phase hs (by simp [hphase]), rfl, rfl⟩)
  | sample hphase =>
    exact .inr (.inr ⟨not_captures_of_phase hs (by simp [hphase]), ⟨q, hs, hphase⟩, rfl, rfl⟩)
  | data v hphase | clk v hphase | latch v hphase =>
    exact .inr (.inl ⟨not_captures_of_phase hs (fun hsettle => by simp [hsettle, Phase.scanning] at hphase), rfl, rfl⟩)
  | wait => exact columnTick_waitTick hs
  | waitEnd => exact columnTick_waitTick hs

theorem columnsPass_complete (i : Instr) (found : Option Key) (s : State) :
    ColumnsPass s (complete i found s) (freeSwitches s) (columnLines s) := by
  cases i <;> exact ⟨rfl, rfl⟩

/-- In every tick without reset the columns pass on (R32). -/
theorem columnTick_of_tick {pins : Pins} {s t : State} (hrst : pins.rst = false) (ht : tick pins s = .goes t) :
    ColumnTick s t := by
  obtain ⟨hreset, -⟩ | ⟨-, hs, i, -, rfl⟩ | ⟨-, rfl⟩ := tick_cases ht
  · cases hrst.symm.trans hreset
  · exact .inr (.inl ⟨not_captures_idle hs, rfl, rfl⟩)
  · obtain ⟨hs, hrun⟩ | ⟨q, hs, -, q', u, hrun, -, hline⟩ | ⟨q, hs, hphase, hrun⟩ := runTick_cases s
    · rw [hrun]
      exact .inr (.inl ⟨not_captures_idle hs, rfl, rfl⟩)
    · have hu : ColumnTick { s with rspValid := false } u := hline.columnTick hs
      rw [hrun]
      exact hu
    · rw [hrun]
      exact .inr (.inl ⟨not_captures_of_phase hs (by simp [hphase]), columnsPass_complete _ _ _⟩)

/-! Under `IDEAL` (R160, log entries 14 to 16). -/

theorem sampleOf_ideal (high : Nibble) (m : KeypadMoment) : sampleOf .ideal high m = idealSample m.switches high m.draw :=
  rfl

theorem columnLines_ideal {s : State} (h : s.params.keypadEnv = .ideal) :
    columnLines s = idealSample (freeSwitches s) s.rowOut (Config.freeColumns s.clocks) := by
  simp [columnLines, h]

/-- What enters the first stage is R160's answer for the switches of the tick, or, where a row's answer is captured, for
those its sample will find. -/
theorem ColumnTick.ideal {s t : State} (h : ColumnTick s t) (henv : s.params.keypadEnv = .ideal) :
    (¬ captures s → ∃ draw : Nibble, t.colSync[0] = idealSample t.switches s.rowOut draw) ∧
      (captures s → ∃ draw : Nibble, t.colSync[0] = idealSample (upcoming s 0).switches s.rowOut draw) := by
  obtain ⟨hcap, -, hsync⟩ | ⟨hcap, hP, hsync⟩ | ⟨hcap, -, hP, hsync⟩ := h
  · refine ⟨fun hnot => absurd hcap hnot, fun _ => ⟨(upcoming s 0).draw, ?_⟩⟩
    rw [hsync]
    exact congrArg (fun env => sampleOf env s.rowOut (upcoming s 0)) henv
  · refine ⟨fun _ => ⟨Config.freeColumns s.clocks, ?_⟩, fun hyes => absurd hyes hcap⟩
    rw [hsync, hP]
    exact columnLines_ideal henv
  · refine ⟨fun _ => ⟨(upcoming s 0).late, ?_⟩, fun hyes => absurd hyes hcap⟩
    rw [hsync, hP]
    exact congrArg (fun env => sampleOf env s.rowOut { upcoming s 0 with draw := (upcoming s 0).late }) henv

/-! The samples. -/

theorem sampleTick_trace (q : Sequencer) (s : State) :
    (sampleTick q s).trace = s.trace ++ [.sample (columnSample s)] := by
  unfold sampleTick
  dsimp only
  split_ifs <;> rfl

/-- A row that settles as R142 asks puts its drive, its settle time and the keypad's answer to it on the trace. -/
theorem trace_afterSample_visitRow {s : State} (h : Settles s) (r : Fin nRows) :
    (afterSample (visitRow r s)).trace = s.trace ++ [.driveRows (onehot4 r), .hold s.params.settleTicks,
      .sample (sampleOf s.params.keypadEnv (onehot4 r) (upcoming s 0))] := by
  rw [afterSample_visitRow_eq (Nat.le_of_succ_le h)]

/-- Settles O11: the columns pass on in every kind of tick, and a row that settles is sampled as the keypad answers it. -/
theorem columnsPassTheSynchroniser : Obligations.ColumnsPassTheSynchroniser := by
  refine ⟨fun s t pins hrst ht => ?_, fun s q hs hphase => ?_, fun s r h => trace_afterSample_visitRow h r⟩
  · have hcolumns := columnTick_of_tick hrst ht
    refine ⟨?_, hcolumns.ideal⟩
    obtain ⟨-, -, hsync⟩ | ⟨-, -, hsync⟩ | ⟨-, -, -, hsync⟩ := hcolumns <;> rw [hsync] <;> rfl
  · rw [runTick_busy hs, seqTick, hphase]
    exact sampleTick_trace q _

/-- Settles O12: the switches are free in every tick but a sample's, which reads those the keypad agent presents. -/
theorem switchesChangeFreelyAndSamplesReadThem : Obligations.SwitchesChangeFreelyAndSamplesReadThem := by
  refine ⟨fun s t pins ht => ?_, fun s r h henv => ⟨(upcoming s 0).draw, ?_⟩⟩
  · cases hrst : pins.rst with
    | true =>
      cases (tick_of_rst hrst s).symm.trans ht
      exact .inl rfl
    | false =>
      obtain ⟨-, hP, -⟩ | ⟨-, hP, -⟩ | ⟨-, hsample, hP, -⟩ := columnTick_of_tick hrst ht
      · exact .inl hP
      · exact .inl hP
      · exact .inr ⟨rfl, hP, hsample⟩
  · rw [trace_afterSample_visitRow h, henv, sampleOf_ideal, afterSample_switches, upcoming_visitRow]

end Sys2Proof.Proofs
end

section
/-! The command port (R41, R45 to R47): a word handed to an idle block runs or is refused, a busy block goes on whatever is
presented, a command's response is the one tick that pulses `rsp_valid`, and a list of commands runs to its end. -/

namespace Sys2Proof.Proofs

open Sys2Proof.Machine Sys2Proof.Laws Sys2Proof.Expect

/-! A word handed over. -/

/-- Settles O40: the host's move is fetched as the command it decodes to. -/
theorem stepRunsTheDecodedCommand : Obligations.StepRunsTheDecodedCommand := by
  intro s w rest i hseq hhost hdecode
  rw [step, fetch_of_decode_command hseq hhost hdecode]

theorem withFetchWord_encode (s : State) (i : Instr) :
    s.withFetchWord 16 (encode i).toNat = presentWord s (encode i) := by
  rw [State.withFetchWord, Nat.mod_eq_of_lt (encode i).isLt, BitVec.ofNat_toNat, BitVec.setWidth_eq]

/-- Settles O41: the placed word is the next move of an idle block, and the table reads it as the encoder wrote it. -/
theorem placedWordRunsNext : Obligations.PlacedWordRunsNext := by
  refine fun s i => ⟨?_, ?_⟩
  · rw [withFetchWord_encode]
    exact stepRunsTheDecodedCommand (presentWord s (encode i)) (encode i) s.host i rfl rfl (decode_encode i)
  · have hlt : (encode i).toNat < 2 ^ 16 := (encode i).isLt
    dsimp only [decodeTableWord]
    rw [Nat.mod_eq_of_lt hlt, if_pos hlt, BitVec.ofNat_toNat, BitVec.setWidth_eq, decode_encode]

/-! One tick without reset. -/

theorem tick_of_busy {pins : Pins} {s : State} {q : Sequencer} (hrst : pins.rst = false) (hs : s.seq = some q) :
    tick pins s = .goes (runTick s) := by
  simp [tick, cmdReady, State.busy, hrst, hs]

theorem tick_of_no_command {pins : Pins} (s : State) (hrst : pins.rst = false) (hvalid : pins.cmdValid = false) :
    tick pins s = .goes (runTick s) := by
  simp [tick, hrst, hvalid]

theorem tick_of_reserved {pins : Pins} {s : State} (hrst : pins.rst = false) (hvalid : pins.cmdValid = true)
    (hs : s.seq = none) (hword : reservedWord pins.cmdWord = true) : tick pins s = .reservedAccepted pins.cmdWord := by
  simp [tick, cmdReady, State.busy, hrst, hs, hvalid, (reservedWord_iff_decode _).mp hword]

theorem busy_eq_true_iff {s : State} : s.busy = true ↔ ∃ q, s.seq = some q := Option.isSome_iff_exists

theorem busy_eq_false_iff {s : State} : s.busy = false ↔ s.seq = none := by simp [State.busy]

/-- Settles O42: the waiting word only makes the tick one of a block that is busy. -/
theorem busyBlockMakesTheHostWait : Obligations.BusyBlockMakesTheHostWait := by
  refine fun s w rest q hs hhost => ⟨?_, (sameInputs_runTick s).host⟩
  have hbusy : s.busy = true := busy_eq_true_iff.mpr ⟨q, hs⟩
  simp [step, fetch, hhost, hbusy, tick_of_busy (pins := Pins.present w) rfl hs, Fetched.ofTick]

/-- A step whose move is a tick is that tick (R44). -/
theorem step_of_tick {s t : State} {pins : Pins} {rest : List HostMove} (hhost : s.host = .clock pins :: rest)
    (ht : tick pins { s with host := rest } = .goes t) : step s = .next t := by
  simp [step, fetch, hhost, ht, Fetched.ofTick]

/-- Settles O43: the tick by whether the block is busy and whether a word is presented, and what acceptance writes. -/
theorem tickGoesOnOrAccepts : Obligations.TickGoesOnOrAccepts := by
  refine ⟨fun s pins hrst => ⟨fun hbusy => ?_, fun hidle hvalid i hdecode => ?_, fun hidle hvalid => ?_⟩,
    fun s i => ⟨startOf s.params i, _, _, _, rfl, rfl⟩, fun s pins rest hhost t ht => step_of_tick hhost ht⟩
  · obtain ⟨q, hs⟩ := busy_eq_true_iff.mp hbusy
    exact tick_of_busy hrst hs
  · exact ⟨tick_accepts hrst hvalid hdecode (busy_eq_false_iff.mp hidle), rfl⟩
  · rw [tick_of_no_command s hrst hvalid, runTick_idle (busy_eq_false_iff.mp hidle)]
    exact ⟨_, _, _, rfl⟩

/-- Settles O44: the decoder refuses the word under its own name at both levels. -/
theorem reservedWordIsRefused : Obligations.ReservedWordIsRefused := by
  refine fun s w rest hs hword => ⟨fun hhost => ?_, fun hhost => ?_⟩
  · exact step_of_decode_reserved hs hhost ((reservedWord_iff_decode w).mp hword)
  · have ht := tick_of_reserved (pins := ⟨false, true, w⟩) (s := { s with host := rest }) rfl rfl hs hword
    simp [step, fetch, hhost, ht, Fetched.ofTick]

/-! The response tick. -/

/-- A tick is the response of the running command, or it gives no pulse and, without reset, no response. -/
theorem response_of_tick {pins : Pins} {s t : State} (ht : tick pins s = .goes t) :
    (pins.rst = false ∧ ∃ q, s.seq = some q ∧ q.phase = .respond ∧
      t = complete q.cmd q.pending { s with rspValid := false }) ∨
    (t.rspValid = false ∧ (pins.rst = false → t.result = s.result ∧ t.responses = s.responses ∧
      ¬ ∃ q, s.seq = some q ∧ q.phase = .respond)) := by
  obtain ⟨hrst, rfl⟩ | ⟨-, hs, i, -, rfl⟩ | ⟨hrst, rfl⟩ := tick_cases ht
  · exact .inr ⟨rfl, fun hno => by cases hno.symm.trans hrst⟩
  · exact .inr ⟨rfl, fun _ => ⟨rfl, rfl, by simp [hs]⟩⟩
  · obtain ⟨hs, hrun⟩ | ⟨q, hs, hphase, q', u, hrun, -, hline⟩ | ⟨q, hs, hphase, hrun⟩ := runTick_cases s
    · rw [hrun]
      exact .inr ⟨rfl, fun _ => ⟨rfl, rfl, by simp [hs]⟩⟩
    · obtain ⟨hresult, hresponses, hvalid, -⟩ := hline.keeps
      rw [hrun]
      exact .inr ⟨hvalid, fun _ => ⟨hresult, hresponses, by simp [hs, hphase]⟩⟩
    · exact .inl ⟨hrst, q, hs, hphase, hrun⟩

/-- Settles O47: the ports of a response tick, and of every other. -/
theorem responseTick : Obligations.ResponseTick := by
  intro s t pins ht
  obtain ⟨hrst, q, hs, hphase, rfl⟩ | ⟨hvalid, hkeeps⟩ := response_of_tick ht
  · obtain ⟨hresponses, hvalid, hend⟩ := complete_responds q.cmd q.pending { s with rspValid := false }
    refine ⟨⟨fun _ => ⟨hrst, q, hs, hphase⟩, fun _ => hvalid⟩, rfl, fun _ => ⟨hresponses, ?_, ?_, ?_⟩, fun hno => ?_⟩
    · exact busy_eq_false_iff.mpr hend
    · simp [outputs, cmdReady, busy_eq_true_iff.mpr ⟨q, hs⟩]
    · intro pins' hrst'
      simp [cmdReady, busy_eq_false_iff.mpr hend, hrst']
    · cases hno.symm.trans hvalid
  · have hno : (outputs pins s t).rspValid ≠ true := by simp [outputs, hvalid]
    refine ⟨⟨fun hyes => absurd hyes hno, fun ⟨hrst, hresp⟩ => ?_⟩, rfl, fun hyes => absurd hyes hno, fun _ hrst => ?_⟩
    · obtain ⟨-, -, hnot⟩ := hkeeps hrst
      exact absurd hresp hnot
    · obtain ⟨hresult, hresponses, -⟩ := hkeeps hrst
      exact ⟨hresult, hresponses⟩

/-! A list of commands. -/

/-- One legal word of a host's program runs: it is answered once and leaves the rest of the program to an idle block. -/
theorem step_withProgram {s : State} {w : Word} (words : List Word) (hs : s.seq = none)
    (hword : reservedWord w = false) :
    ∃ t : State, step (s.withProgram (w :: words)) = .next (t.withProgram words) ∧ t.seq = none ∧
      ∃ r, t.responses = s.responses ++ [r] := by
  obtain ⟨i, rfl⟩ := (reservedWord_eq_false_iff w).mp hword
  obtain ⟨t, hexec, hresponses, -, hend⟩ := exec_responds i (s.withProgram words)
  have hhost : t.host = words.map .command := (sameInputs_of_exec hexec).host
  have hrest : t.withProgram words = t := by rw [State.withProgram, ← hhost]
  have hstep : step (s.withProgram (encode i :: words)) = exec i (s.withProgram words) :=
    stepRunsTheDecodedCommand _ (encode i) (words.map .command) i hs rfl (decode_encode i)
  exact ⟨t, by rw [hrest, hstep, hexec], hend, t.result, hresponses⟩

theorem run_succ_of_step {s t : State} (k : Nat) (h : step s = .next t) :
    Host.Core.run core (k + 1) s = Host.Core.run core k t := by
  have hcore : core.step s = .next t := h
  simp only [Host.Core.run, hcore]

/-- Settles O46: by induction on the program, one step for each of its words. -/
theorem commandListRunsToItsEnd : Obligations.CommandListRunsToItsEnd := by
  intro words
  induction words with
  | nil => exact fun s hs _ => ⟨s.withProgram [], rfl, ⟨hs, rfl⟩, rfl, List.prefix_rfl⟩
  | cons w words ih =>
    intro s hs hlegal
    obtain ⟨u, hstep, hu, r, hresponses⟩ := step_withProgram words hs (hlegal w List.mem_cons_self)
    obtain ⟨t, hrun, ⟨hend, hcount⟩, hhost, hprefix⟩ := ih u hu fun v hv => hlegal v (List.mem_cons_of_mem w hv)
    refine ⟨t, (run_succ_of_step words.length hstep).trans hrun, ⟨hend, ?_⟩, hhost, ?_⟩
    · rw [hcount, hresponses, List.length_append, List.length_cons, List.length_cons, List.length_nil]
      omega
    · exact (hresponses ▸ List.prefix_append s.responses [r]).trans hprefix

end Sys2Proof.Proofs
end

section
/-! Reset (R270 to R272) and what is known of `Q`: the registers after a reset, and the window after power-up in which `Q`
is unknown, which only a completed write, or a reset that cuts one after its latch has risen, can end. -/

namespace Sys2Proof.Proofs

open Sys2Proof.Machine Sys2Proof.Laws Sys2Proof.Expect

/-! `Q` in and after its unknown window. -/

theorem q_of_not_written {s : State} (h : s.written = false) : s.q = Stages.unknown := by simp [State.q, h]

theorem q_of_written {s : State} (h : s.written = true) : s.q = s.latched := by simp [State.q, h]

/-- Settles O49: the reset state's fields. -/
theorem resetStateRegisters : Obligations.ResetStateRegisters := ⟨rfl, rfl, rfl, rfl, rfl, rfl, rfl, rfl, rfl, rfl⟩

/-- Settles O50: a tick with `rst = 1` is a reset, and what a reset does to the external register is R271's and R272's. -/
theorem resetTick : Obligations.ResetTick := by
  intro s pins hrst
  refine ⟨applyReset s, tick_of_rst hrst s, rfl, rfl, rfl, rfl, rfl, rfl, rfl, rfl, rfl, rfl, fun hfollows => ?_,
    fun hwritten hdriven => ?_, cmdReady_of_rst hrst s, rfl⟩
  · refine ⟨applyReset_chain hfollows, fun hwritten => ?_, fun hdriven => ?_⟩
    · rw [q_of_written (by simp [hwritten]), q_of_written hwritten, applyReset_latched hfollows]
    · rw [q_of_written (by simp [hdriven]), applyReset_latched hfollows]
  · exact q_of_not_written (by simp [hwritten, hdriven])

/-! The window's end. -/

/-- The second state's window is open as the first one's, or `ends` holds and it is closed. -/
def WindowKept (ends : Prop) (s t : State) : Prop := t.written = s.written ∨ ends ∧ t.written = true

theorem WindowKept.imp {A B : Prop} {s t : State} (hAB : A → B) (h : WindowKept A s t) : WindowKept B s t :=
  Or.imp_right (And.imp_left hAB) h

/-- Only the end of a write ends the window (R272). -/
theorem windowKept_complete (i : Instr) (found : Option Key) (s : State) :
    WindowKept (∃ b, i = .writeArray b) s (complete i found s) := by
  cases i with
  | poll | pollE | edgeNone | edge => exact .inl rfl
  | writeArray b => exact .inr ⟨⟨b, rfl⟩, rfl⟩

theorem windowKept_of_exec {i : Instr} {s t : State} (h : exec i s = .next t) :
    WindowKept (∃ b, i = .writeArray b) s t := by
  obtain ⟨-, -, -, -, -, hscan, -⟩ := scanRows_frame scanOrder (clock s)
  have hpoll (j : Instr) (found : Option Key) (hj : ∀ b, j ≠ .writeArray b) :
      (complete j found (scan (clock s)).2).written = s.written := by
    obtain hkept | ⟨⟨b, hb⟩, -⟩ := windowKept_complete j found (scan (clock s)).2
    · exact hkept.trans hscan
    · exact absurd hb (hj b)
  cases i with
  | poll => cases (exec_of_poll (.inl rfl) s).symm.trans h; exact .inl (hpoll _ _ nofun)
  | pollE => cases (exec_of_poll (.inr rfl) s).symm.trans h; exact .inl (hpoll _ _ nofun)
  | edgeNone | edge => cases h; exact .inl rfl
  | writeArray b => cases h; exact .inr ⟨⟨b, rfl⟩, rfl⟩

/-- What ends the window in a tick: a write's response, or a reset that cuts a write after its latch has risen. -/
def TickEndsWindow (pins : Pins) (s : State) : Prop :=
  (∃ q b, s.seq = some q ∧ q.cmd = .writeArray b ∧ q.phase = .respond) ∨ pins.rst = true ∧ latchDriven s = true

theorem windowKept_of_tick {pins : Pins} {s t : State} (ht : tick pins s = .goes t) :
    WindowKept (TickEndsWindow pins s) s t := by
  obtain ⟨hrst, rfl⟩ | ⟨-, -, i, -, rfl⟩ | ⟨-, rfl⟩ := tick_cases ht
  · cases hdriven : latchDriven s with
    | false => exact .inl (by simp [hdriven])
    | true => exact .inr ⟨.inr ⟨hrst, hdriven⟩, by simp [hdriven]⟩
  · exact .inl rfl
  · obtain ⟨-, hrun⟩ | ⟨q, -, -, q', u, hrun, -, hline⟩ | ⟨q, hs, hphase, hrun⟩ := runTick_cases s
    · rw [hrun]
      exact .inl rfl
    · obtain ⟨-, -, -, hwritten, -⟩ := hline.keeps
      rw [hrun]
      exact .inl hwritten
    · have hcomplete := windowKept_complete q.cmd q.pending { s with rspValid := false }
      rw [hrun]
      exact hcomplete.imp fun ⟨b, hb⟩ => .inl ⟨q, b, hs, hb, hphase⟩

/-- What ends the window in a step. -/
def StepEndsWindow (s : State) : Prop :=
  (∃ b u, fetch s = .run (.writeArray b) u) ∨
    (∃ q b, s.seq = some q ∧ q.cmd = .writeArray b ∧ q.phase = .respond) ∨ (resets s ∧ latchDriven s = true)

theorem windowKept_of_step {s t : State} (h : step s = .next t) : WindowKept (StepEndsWindow s) s t := by
  obtain ⟨w, i, rest, hhost, hseq, hdecode, hexec⟩ | ⟨-, htick⟩ | ⟨w, rest, -, -, htick⟩ | ⟨pins, rest, hhost, htick⟩ :=
    step_cases h
  · have hfetch := fetch_of_decode_command hseq hhost hdecode
    have hkept := windowKept_of_exec (s := { s with host := rest }) hexec
    exact hkept.imp fun ⟨b, hb⟩ => .inl ⟨b, _, hb ▸ hfetch⟩
  · exact (windowKept_of_tick htick).imp fun hends => .inr (hends.imp_right fun ⟨hrst, _⟩ => by cases hrst)
  · exact (windowKept_of_tick htick).imp fun hends => .inr (hends.imp_right fun ⟨hrst, _⟩ => by cases hrst)
  · have hkept := windowKept_of_tick (s := { s with host := rest }) htick
    exact hkept.imp fun hends =>
      .inr (hends.imp_right fun ⟨hrst, hdriven⟩ => ⟨⟨pins, rest, hhost, hrst⟩, hdriven⟩)

/-- Settles O36: the window is closed by what `StepEndsWindow` names, and by nothing else opened or closed. -/
theorem outputsUnknownUntilAWriteCompletes : Obligations.OutputsUnknownUntilAWriteCompletes := by
  refine ⟨rfl, fun s => q_of_not_written, fun s t h => ?_⟩
  obtain hkept | ⟨hends, hwritten⟩ := windowKept_of_step h
  · exact ⟨fun hs => hkept.trans hs, fun hs ht => by cases (hkept.symm.trans ht).symm.trans hs⟩
  · exact ⟨fun _ => hwritten, fun _ _ => hends⟩

end Sys2Proof.Proofs
end

section
/-! The rows (R141, R274): every row drive, of a tick or within a whole command, is 0 or one-hot, and the trace only grows
(R78). -/

namespace Sys2Proof.Proofs

open Sys2Proof.Machine Sys2Proof.Laws Sys2Proof.Expect

/-- Every row drive among these events is legal. -/
def LegalEvents (events : List LineEvent) : Prop := ∀ v, LineEvent.driveRows v ∈ events → rowsLegal v = true

/-- From `s` to `t` the rows stay legal, the trace only grows, and the row drives it gains are legal. -/
structure RowsStayLegal (s t : State) : Prop where
  rowOut : rowsLegal s.rowOut = true → rowsLegal t.rowOut = true
  trace  : ∃ l, t.trace = s.trace ++ l ∧ LegalEvents l

theorem RowsStayLegal.trans {s t u : State} (hst : RowsStayLegal s t) (htu : RowsStayLegal t u) : RowsStayLegal s u := by
  obtain ⟨hrowT, l, hl, hlegalT⟩ := hst
  obtain ⟨hrowU, m, hm, hlegalU⟩ := htu
  refine ⟨fun h => hrowU (hrowT h), l ++ m, by rw [hm, hl, List.append_assoc], fun v hv => ?_⟩
  obtain hv | hv := List.mem_append.mp hv
  · exact hlegalT v hv
  · exact hlegalU v hv

/-- Neither the rows nor the trace change. -/
theorem RowsStayLegal.of_eq {s t : State} (hrow : t.rowOut = s.rowOut) (htrace : t.trace = s.trace) :
    RowsStayLegal s t :=
  ⟨fun h => hrow ▸ h, [], by rw [htrace, List.append_nil], by simp [LegalEvents]⟩

/-- One event that drives no row. -/
theorem RowsStayLegal.of_event {s t : State} {e : LineEvent} (hrow : t.rowOut = s.rowOut)
    (htrace : t.trace = s.trace ++ [e]) (he : ∀ v, e ≠ .driveRows v) : RowsStayLegal s t :=
  ⟨fun h => hrow ▸ h, [e], htrace, fun v hv => absurd (List.mem_singleton.mp hv).symm (he v)⟩

theorem rowsStayLegal_driveRows {v : Nibble} (hv : rowsLegal v = true) (s : State) :
    RowsStayLegal s (driveRows v s) :=
  ⟨fun _ => hv, [.driveRows v], rfl, fun w hw => by cases List.mem_singleton.mp hw; exact hv⟩

theorem rowsStayLegal_holdLine (s : State) : RowsStayLegal s (holdLine s) := .of_event rfl rfl nofun

theorem rowsStayLegal_driveData (v : Bool) (s : State) : RowsStayLegal s (driveData v s) := .of_event rfl rfl nofun

theorem rowsStayLegal_driveClk (v : Bool) (s : State) : RowsStayLegal s (driveClk v s) := .of_event rfl rfl nofun

theorem rowsStayLegal_driveLatch (v : Bool) (s : State) : RowsStayLegal s (driveLatch v s) := .of_event rfl rfl nofun

theorem rowsStayLegal_afterSample (s : State) : RowsStayLegal s (afterSample s) := .of_event rfl rfl nofun

theorem rowsStayLegal_complete (i : Instr) (found : Option Key) (s : State) : RowsStayLegal s (complete i found s) :=
  .of_event (complete_rowOut i found s) (complete_trace i found s) nofun

/-! One tick. -/

theorem LineTick.rowsStayLegal {q : Sequencer} {s u : State} (h : LineTick q s u) : RowsStayLegal s u := by
  have hwait : RowsStayLegal s (waitTick q s) := by
    rw [waitTick_eq]
    exact .of_eq rfl rfl
  cases h with
  | driveRow => exact rowsStayLegal_driveRows (rowsLegal_onehot4 q.row) s
  | park => exact rowsStayLegal_driveRows rowsLegal_zero s
  | sample => exact rowsStayLegal_afterSample s
  | data v => exact rowsStayLegal_driveData v s
  | clk v => exact rowsStayLegal_driveClk v s
  | latch v => exact rowsStayLegal_driveLatch v s
  | wait => exact hwait
  | waitEnd n => exact hwait.trans (.of_event rfl rfl nofun)

theorem rowsStayLegal_runTick (s : State) : RowsStayLegal s (runTick s) := by
  have hpulse : RowsStayLegal s { s with rspValid := false } := .of_eq rfl rfl
  obtain ⟨-, hrun⟩ | ⟨q, -, -, q', u, hrun, -, hline⟩ | ⟨q, -, -, hrun⟩ := runTick_cases s
  · rw [hrun]
    exact .of_eq rfl rfl
  · rw [hrun]
    exact (hpulse.trans hline.rowsStayLegal).trans (.of_eq rfl rfl)
  · rw [hrun]
    exact hpulse.trans (rowsStayLegal_complete _ _ _)

theorem rowsStayLegal_applyReset (s : State) : RowsStayLegal s (applyReset s) := by
  refine ⟨fun _ => rowsLegal_zero, [.driveRows 0#4, .drive .data false, .drive .clk false, .drive .latch false],
    by simp, fun v hv => ?_⟩
  obtain rfl : v = 0#4 := by simpa using hv
  exact rowsLegal_zero

theorem rowsStayLegal_of_tick {pins : Pins} {s t : State} (ht : tick pins s = .goes t) : RowsStayLegal s t := by
  obtain ⟨-, rfl⟩ | ⟨-, -, i, -, rfl⟩ | ⟨-, rfl⟩ := tick_cases ht
  · exact rowsStayLegal_applyReset s
  · exact .of_eq rfl rfl
  · exact rowsStayLegal_runTick s

/-! One whole command. -/

theorem rowsStayLegal_visitRow (r : Fin nRows) (s : State) : RowsStayLegal s (visitRow r s) :=
  (rowsStayLegal_driveRows (rowsLegal_onehot4 r) s).trans (.of_event rfl rfl nofun)

theorem rowsStayLegal_scanRows (rows : List (Fin nRows)) (s : State) : RowsStayLegal s (scanRows rows s).2 := by
  induction rows generalizing s with
  | nil => exact rowsStayLegal_driveRows rowsLegal_zero s
  | cons r rows ih =>
    have hrow := (rowsStayLegal_visitRow r s).trans (rowsStayLegal_afterSample (visitRow r s))
    simp only [scanRows]
    split
    · exact hrow.trans (rowsStayLegal_driveRows rowsLegal_zero _)
    · exact hrow.trans (ih _)

theorem rowsStayLegal_shiftBit (b : Image) (i : Fin imgWidth) (s : State) : RowsStayLegal s (shiftBit b i s) := by
  have hdata := (rowsStayLegal_driveData (imageElement b i) s).trans (rowsStayLegal_holdLine _)
  have hrise := hdata.trans ((rowsStayLegal_driveClk true _).trans (rowsStayLegal_holdLine _))
  exact hrise.trans ((rowsStayLegal_driveClk false _).trans (rowsStayLegal_holdLine _))

theorem rowsStayLegal_shiftBits (b : Image) (order : List (Fin imgWidth)) (s : State) :
    RowsStayLegal s (shiftBits b order s) := by
  induction order generalizing s with
  | nil => exact .of_eq rfl rfl
  | cons i order ih => exact (rowsStayLegal_shiftBit b i s).trans (ih (shiftBit b i s))

theorem rowsStayLegal_pulseLatch (s : State) : RowsStayLegal s (pulseLatch s) := by
  have hrise := (rowsStayLegal_driveLatch true s).trans (rowsStayLegal_holdLine _)
  exact hrise.trans ((rowsStayLegal_driveLatch false _).trans (rowsStayLegal_holdLine _))

theorem rowsStayLegal_of_exec {i : Instr} {s t : State} (ht : exec i s = .next t) : RowsStayLegal s t := by
  have hclock : RowsStayLegal s (clock s) := .of_eq rfl rfl
  have hscan := hclock.trans (rowsStayLegal_scanRows scanOrder (clock s))
  have hend (u : State) (j : Instr) (found : Option Key) (hu : RowsStayLegal s u) :=
    hu.trans (rowsStayLegal_complete j found u)
  cases i with
  | poll => cases (exec_of_poll (.inl rfl) s).symm.trans ht; exact hend _ _ _ hscan
  | pollE => cases (exec_of_poll (.inr rfl) s).symm.trans ht; exact hend _ _ _ hscan
  | edgeNone => cases ht; exact hend _ .edgeNone none hclock
  | edge k => cases ht; exact hend _ (.edge k) none hclock
  | writeArray b =>
    cases ht
    have hbits := hclock.trans (rowsStayLegal_shiftBits b (shiftOrder s.params.shiftOrder) (clock s))
    exact hend _ (.writeArray b) none (hbits.trans (rowsStayLegal_pulseLatch _))

/-- Settles O56: every tick and every command keeps the rows legal and only adds legal events. -/
theorem noTwoRowsAreEverHigh : Obligations.NoTwoRowsAreEverHigh := by
  intro s t hrows h
  have hlegal : RowsStayLegal s t := by
    obtain ⟨w, i, rest, -, -, -, hexec⟩ | ⟨-, htick⟩ | ⟨w, rest, -, -, htick⟩ | ⟨pins, rest, -, htick⟩ := step_cases h
    · obtain ⟨hrow, htrace⟩ := rowsStayLegal_of_exec (s := { s with host := rest }) hexec
      exact ⟨hrow, htrace⟩
    · exact rowsStayLegal_of_tick htick
    · exact rowsStayLegal_of_tick htick
    · obtain ⟨hrow, htrace⟩ := rowsStayLegal_of_tick (s := { s with host := rest }) htick
      exact ⟨hrow, htrace⟩
  exact ⟨hlegal.rowOut hrows, hlegal.trace⟩

end Sys2Proof.Proofs
end

section
/-! What a poll leaves and reports (R148 to R154): the whole next state of `POLL` and `POLL.E`, the events it puts on the
lines, and the key it reports as a function of the samples and the key-code ROM alone. -/

namespace Sys2Proof.Proofs

open Sys2Proof.Machine Sys2Proof.Laws Sys2Proof.Expect

/-! The whole next state. -/

theorem sampleRows_keypad (rows : List (Fin nRows)) (s : State) :
    (sampleRows rows s).keypad = s.keypad.drop rows.length := by
  induction rows generalizing s with
  | nil => rfl
  | cons r rows ih =>
    calc (sampleRows rows (afterSample (visitRow r s))).keypad
      _ = (s.keypad.drop 1).drop rows.length := ih _
      _ = s.keypad.drop (rows.length + 1) := by rw [List.drop_drop, Nat.add_comm]

/-- The samples that the keypad agent's list does not answer take free values (R143). -/
theorem sampleRows_draws (rows : List (Fin nRows)) (s : State) :
    (sampleRows rows s).draws = s.draws + (rows.length - s.keypad.length) := by
  induction rows generalizing s with
  | nil => simp [sampleRows]
  | cons r rows ih =>
    have hrest := ih (afterSample (visitRow r s))
    simp only [afterSample_draws, afterSample_keypad, visitRow_draws, visitRow_keypad, List.length_drop,
      List.isEmpty_iff_length_eq_zero] at hrest
    rw [List.length_cons]
    refine hrest.trans ?_
    split <;> omega

theorem length_take_succ_scanOrder (r : Fin nRows) : (scanOrder.take (r.val + 1)).length = r.val + 1 := by
  rw [take_succ_scanOrder, List.length_append, length_take_scanOrder, List.length_singleton]

/-- A scan leaves what `Expect.scanned` says, with the synchroniser, the switches and the tick counter at some values. -/
theorem scan_eq_scanned {s : State} (h : Settles s) :
    (scan s).2 = { scanned s with
      colSync := (scan s).2.colSync, switches := (scan s).2.switches, clocks := (scan s).2.clocks } := by
  obtain ⟨hdata, hclk, hlatch, hchain, hlatched, hwritten, hedge, hresult, hhost, hresponses, hseq, hvalid, hparams⟩ :=
    scanRows_frame scanOrder s
  have hkeypad : (scan s).2.keypad = s.keypad.drop ((lastRow s).val + 1) := by
    rw [scan_eq h, driveRows_keypad, sampleRows_keypad, length_take_succ_scanOrder]
  have hdraws : (scan s).2.draws = s.draws + ((lastRow s).val + 1 - s.keypad.length) := by
    rw [scan_eq h, driveRows_draws, sampleRows_draws, length_take_succ_scanOrder]
  exact State.ext (scan_rowOut s) hdata hclk hlatch hresult hedge hvalid hseq rfl hchain hlatched hwritten rfl hkeypad
    hdraws rfl hhost hresponses (scan_trace h) hparams

/-- Settles O15: the scan begins after the tick of acceptance and leaves `Expect.scanned`, and the response adds
`Expect.responded`. -/
theorem pollResultAndFrame : Obligations.PollResultAndFrame := by
  intro s h
  have hclock : Settles (clock s) := h
  rw [exec_of_poll (.inl rfl), lookup_scan_clock h, scan_eq_scanned hclock]
  exact ⟨_, _, _, rfl⟩

/-- Settles O16: as `POLL`, with the detector run on the key found. -/
theorem pollEResultAndFrame : Obligations.PollEResultAndFrame := by
  intro s h
  have hclock : Settles (clock s) := h
  have hedge : (scan (clock s)).2.edgePrev = s.edgePrev := (scan_keeps (clock s)).1
  rw [exec_of_poll (.inr rfl), lookup_scan_clock h, complete, completePollE, hedge, edge_eq_fired,
    scan_eq_scanned hclock]
  exact ⟨_, _, _, rfl⟩

/-! The events. -/

/-- A drive of the row lines. -/
def isRowDrive : LineEvent → Bool
  | .driveRows _ => true
  | _ => false

/-- The value of a column sample. -/
def sampleValue : LineEvent → Option Nibble
  | .sample v => some v
  | _ => none

/-- Each row visited is driven once. -/
theorem rowDrives_of_rows (s : State) (rows : List (Fin nRows)) :
    ((rows.flatMap (rowEvents s)).filter isRowDrive).length = rows.length := by
  induction rows with
  | nil => rfl
  | cons r rows ih => simp [rowEvents, List.filter_cons, isRowDrive, ih]

/-- Each row visited is sampled once. -/
theorem samples_of_rows (s : State) (rows : List (Fin nRows)) :
    (rows.flatMap (rowEvents s)).filterMap sampleValue = rows.map (rowSample s) := by
  induction rows with
  | nil => rfl
  | cons r rows ih => simp [rowEvents, List.filterMap_cons, sampleValue, ih]

theorem pollEvents_rowDrives (s : State) : ((pollEvents s).filter isRowDrive).length = (lastRow s).val + 2 := by
  rw [pollEvents, List.filter_append, List.length_append, rowDrives_of_rows, length_take_succ_scanOrder]
  rfl

theorem pollEvents_samples (s : State) :
    (pollEvents s).filterMap sampleValue = (scanOrder.take ((lastRow s).val + 1)).map (rowSample s) := by
  rw [pollEvents, List.filterMap_append, samples_of_rows]
  exact List.append_nil _

theorem pollEvents_no_drive (s : State) : ∀ e ∈ pollEvents s, ∀ line v, e ≠ .drive line v := by
  rintro _ he line v rfl
  simp [pollEvents, rowEvents] at he

theorem lastRow_of_found {s : State} {pos : Position} (h : found s = some pos) : lastRow s = pos.1 := by
  simp [lastRow, h]

theorem lastRow_of_found_none {s : State} (h : found s = none) : lastRow s = 3 := by
  simp [lastRow, h]

/-- A poll's trace is R152's events and the response. -/
theorem exec_poll_trace {i : Instr} (hi : i = .poll ∨ i = .pollE) {s : State} (h : Settles s) :
    ∃ t, exec i s = .next t ∧ t.trace = s.trace ++ pollEvents s ++ [.respond t.result] := by
  have hclock : Settles (clock s) := h
  refine ⟨_, exec_of_poll hi s, ?_⟩
  rw [complete_trace, scan_trace hclock]
  rfl

/-- Settles O17: the events of a poll are counted row by row. -/
theorem pollTraceShape : Obligations.PollTraceShape := by
  intro s i hi h
  obtain ⟨t, hexec, htrace⟩ := exec_poll_trace hi h
  refine ⟨t, pollEvents s, hexec, htrace, pollEvents_no_drive s, fun pos hpos => ⟨?_, ?_, ?_⟩, fun hnone => ⟨?_, ?_⟩⟩
  · rw [← lastRow_of_found hpos]
    exact pollEvents_rowDrives s
  · rw [← lastRow_of_found hpos, ← length_take_succ_scanOrder, ← List.length_map (rowSample s)]
    exact congrArg List.length (pollEvents_samples s)
  · obtain ⟨-, -, hbefore⟩ := first_of_found hpos
    exact hbefore
  · have hdrives := pollEvents_rowDrives s
    rw [lastRow_of_found_none hnone] at hdrives
    exact hdrives
  · have hzero := (found_eq_none_iff s).mp hnone
    have hsamples := pollEvents_samples s
    rw [lastRow_of_found_none hnone] at hsamples
    refine hsamples.trans ?_
    simp [scanOrder, hzero]

/-! The key found. -/

/-- The row of the first active sample, and the lowest column of it, are what a scan finds. -/
theorem found_of_first {s : State} {r : Fin nRows} (hactive : rowSample s r ≠ 0#4)
    (hbefore : ∀ j, j < r → rowSample s j = 0#4) : found s = some (r, ctz4 (rowSample s r)) := by
  obtain hnone | ⟨⟨r', c⟩, hpos⟩ := Option.eq_none_or_eq_some (found s)
  · exact absurd ((found_eq_none_iff s).mp hnone r) hactive
  · obtain ⟨hactive', rfl, hbefore'⟩ := first_of_found hpos
    obtain hlt | rfl | hgt := lt_trichotomy r r'
    · exact absurd (hbefore' r hlt) hactive
    · exact hpos
    · exact absurd (hbefore r' hgt) hactive'

theorem found_congr {s s' : State} (h : ∀ r : Fin nRows, rowSample s r = rowSample s' r) : found s = found s' := by
  simp only [found, h]

theorem foundKey_congr {s s' : State} (hrom : s.params.keyRom = s'.params.keyRom)
    (h : ∀ r : Fin nRows, rowSample s r = rowSample s' r) : foundKey s = foundKey s' := by
  have hkey : keyAt s.params = keyAt s'.params := funext fun pos => by simp only [keyAt, romRead, hrom]
  rw [foundKey, foundKey, found_congr h, hkey]

theorem exec_poll_result {s : State} (h : Settles s) :
    ∃ t, exec .poll s = .next t ∧ t.result = resultWord (foundKey s) none := by
  obtain ⟨sync, P, n, hexec⟩ := pollResultAndFrame s h
  exact ⟨_, hexec, rfl⟩

theorem exec_pollE_result {s : State} (h : Settles s) :
    ∃ t, exec .pollE s = .next t ∧ t.result = resultWord (foundKey s) (fired s.edgePrev (foundKey s)) := by
  obtain ⟨sync, P, n, hexec⟩ := pollEResultAndFrame s h
  exact ⟨_, hexec, rfl⟩

/-- Settles O18: both polls report the key found, which is the same in both states. -/
theorem pollDependsOnSamplesOnly : Obligations.PollDependsOnSamplesOnly := by
  intro s s' h h' hrom hsamples
  obtain ⟨t, ht, hresult⟩ := exec_poll_result h
  obtain ⟨t', ht', hresult'⟩ := exec_poll_result h'
  obtain ⟨u, hu, hresultE⟩ := exec_pollE_result h
  obtain ⟨u', hu', hresultE'⟩ := exec_pollE_result h'
  rw [← foundKey_congr hrom hsamples] at hresult' hresultE'
  refine ⟨t, t', u, u', ht, ht', hresult.trans hresult'.symm, hu, hu', ?_, ?_⟩
  · rw [hresultE, hresultE', resultWord_low, resultWord_low]
  · rw [hresultE, hresult, resultWord_low, resultWord_low]

/-! The key map (R71, R72, R154). -/

theorem romAddress_eq_ofNat (pos : Position) : romAddress pos = BitVec.ofNat 4 (4 * pos.1.val + pos.2.val) := by
  rw [← romAddress_toNat, BitVec.ofNat_toNat, BitVec.setWidth_eq]

theorem romAddress_injective : Function.Injective romAddress := by
  intro pos pos' h
  have haddress := congrArg BitVec.toNat h
  rw [romAddress_toNat, romAddress_toNat] at haddress
  have hcol : pos.2.val < 4 := pos.2.isLt
  have hcol' : pos'.2.val < 4 := pos'.2.isLt
  exact Prod.ext (Fin.ext (by omega)) (Fin.ext (by omega))

/-- Under an injective ROM different positions have different keys. -/
theorem keyAt_injective {p : Params} (h : p.romInjective = true) : Function.Injective (keyAt p) := by
  intro pos pos' hkey
  have hrom : ∀ i j : Fin nKeys, p.keyRom[i] = p.keyRom[j] → i = j := of_decide_eq_true h
  have hread : romRead p (romAddress pos) = romRead p (romAddress pos') := by
    rw [← keyCode_keyOf (romRead p (romAddress pos)), ← keyCode_keyOf (romRead p (romAddress pos'))]
    exact congrArg keyCode hkey
  exact romAddress_injective (BitVec.toFin_inj.mp (hrom _ _ hread))

/-- With one position active in its row and no row before it active, its key is found. -/
theorem foundKey_of_onehot {s : State} {r : Fin nRows} {k : Fin nCols} (hactive : rowSample s r = onehot4 k)
    (hbefore : ∀ j, j < r → rowSample s j = 0#4) : foundKey s = some (keyAt s.params (r, k)) := by
  have hfound := found_of_first (s := s) (r := r) (hactive ▸ onehot4_ne_zero k) hbefore
  rw [foundKey, hfound, hactive, ctz4_onehot4]
  rfl

/-- Settles O19: the key found is the ROM's entry at the first active position. -/
theorem pollReportsTheActivePosition : Obligations.PollReportsTheActivePosition := by
  intro s h hrom
  obtain ⟨t, ht, hresult⟩ := exec_poll_result h
  refine ⟨t, ht, fun r k hactive hothers => ?_, fun p p' hkey => keyAt_injective hrom hkey, fun hnone => ?_,
    fun r r' k k' hlt hactive _ hothers => ?_⟩
  · rw [hresult, foundKey_of_onehot hactive fun j hj => hothers j hj.ne, keyAt, romAddress_eq_ofNat]
  · rw [hresult, foundKey, (found_eq_none_iff s).mpr hnone]
    rfl
  · rw [hresult, foundKey_of_onehot hactive fun j hj => hothers j hj.ne (hj.trans hlt).ne]

end Sys2Proof.Proofs
end

section
/-! The commands of the edge detector (R182 to R186): `EDGE x` as a whole state, runs of it, and `POLL.E` as `POLL` and then
`EDGE` of the key found. -/

namespace Sys2Proof.Proofs

open Sys2Proof.Machine Sys2Proof.Laws Sys2Proof.Expect

/-- What `EDGE x` leaves in either form (R182): the response to the key fired, and `x` in the detector. -/
theorem exec_edgeOf (x : Option Key) (s : State) :
    exec (.edgeOf x) s = .next { responded (resultWord none (fired s.edgePrev x)) s with
      edgePrev := x, colSync := (clock (clock s)).colSync, switches := freeSwitches (clock s), clocks := s.clocks + 2 } := by
  have hcomplete : exec (.edgeOf x) s = .next (completeEdge x (clock s)) := by cases x <;> rfl
  rw [hcomplete, completeEdge, edge_eq_fired]
  rfl

theorem fired_some (prev : Option Key) (k : Key) :
    resultWord none (fired prev (some k)) = if prev = some k then 0#16 else resultWord none (some k) := by
  by_cases hprev : prev = some k
  · simp [fired, hprev, resultWord_none]
  · simp [fired, hprev, Ne.symm hprev]

/-- Settles O23: the words, and `exec_edgeOf` in its two forms. -/
theorem edgeResultAndFrame : Obligations.EdgeResultAndFrame := by
  refine ⟨rfl, encode_edge_eq_or, by decide, fun s => ?_, fun s k => ?_⟩
  · rw [← resultWord_none]
    exact ⟨_, _, _, exec_edgeOf none s⟩
  · rw [← fired_some]
    exact ⟨_, _, _, exec_edgeOf (some k) s⟩

/-- Settles O25: by induction on the inputs, each fired against the one before it. -/
theorem oneFirePerPress : Obligations.OneFirePerPress := by
  intro xs
  induction xs with
  | nil => exact fun s => ⟨s, rfl, (List.append_nil _).symm, rfl⟩
  | cons x xs ih =>
    intro s
    obtain ⟨u, hexec, hresponses, hedge⟩ : ∃ u, exec (.edgeOf x) s = .next u ∧
        u.responses = s.responses ++ [resultWord none (fired s.edgePrev x)] ∧ u.edgePrev = x :=
      ⟨_, exec_edgeOf x s, rfl, rfl⟩
    obtain ⟨t, hrun, ht, hlast⟩ := ih u
    refine ⟨t, by simp only [runEdges, hexec, hrun], ?_, ?_⟩
    · rw [ht, hresponses, hedge, List.append_assoc]
      rfl
    · rw [hlast, hedge, List.getLastD_cons]

/-- Settles O26: the run of the four inputs. -/
theorem sourceScenarioFires : Obligations.SourceScenarioFires := by
  intro s hs
  obtain ⟨t, hrun, hresponses, hlast⟩ := oneFirePerPress [some .zero, some .zero, none, some .one] s
  have hfires : (fires none [some .zero, some .zero, none, some .one]).map (resultWord none) =
      [resultWord none (some .zero), 0#16, 0#16, resultWord none (some .one)] := by decide
  exact ⟨t, hrun, by rw [hresponses, hs, hfires], hlast⟩

/-- The high byte of a result holds the key fired alone (R107). -/
theorem resultWord_high (key fire : Option Key) : (resultWord key fire).extractLsb' 8 8 = 0b000#3 ++ encKey fire :=
  calc (resultWord key fire).extractLsb' 8 8
    _ = (0b000#3 ++ encKey fire ++ 0b000#3).extractLsb' 3 8 := BitVec.extractLsb'_append_eq_of_le (by decide)
    _ = (0b000#3 ++ encKey fire).extractLsb' 0 8 := BitVec.extractLsb'_append_eq_of_le (by decide)
    _ = 0b000#3 ++ encKey fire := BitVec.extractLsb'_eq_self

/-- Settles O24: the three commands as whole states: `POLL.E` gives the events of one scan and one response, the pair the
same scan's events and two. -/
theorem pollEEqualsPollThenEdge : Obligations.PollEEqualsPollThenEdge := by
  intro s h
  obtain ⟨syncE, PE, nE, hpollE⟩ := pollEResultAndFrame s h
  obtain ⟨sync, P, n, hpoll⟩ := pollResultAndFrame s h
  refine ⟨_, _, _, hpollE, hpoll, exec_edgeOf (foundKey s) _, rfl, rfl, rfl, rfl, rfl, rfl, rfl, rfl, rfl, ?_, ?_, ?_, ?_⟩
  · simp [responded, isLineEvent]
  · exact (resultWord_low _ _).trans (resultWord_low _ _).symm
  · exact (resultWord_high _ _).trans (resultWord_high _ _).symm
  · simp [responded, scanned]

end Sys2Proof.Proofs
end

section
/-! What a `WRITE_ARRAY` leaves (R204 to R211): the external register after the eight shifts and the latch pulse, the whole
next state, and the counts of its events. -/

namespace Sys2Proof.Proofs

open Sys2Proof.Machine Sys2Proof.Laws Sys2Proof.Expect

/-! The output map (R208). -/

theorem getLsbD_outmap_asc (b : Image) (k : Fin imgWidth) :
    (outmap .asc b).getLsbD k.val = b.getLsbD (7 - k.val) := by
  revert b k; decide

theorem getElem_ofByte (b : Image) (k : Fin imgWidth) : (Stages.ofByte b)[k] = some (b.getLsbD k.val) := by
  revert k
  simp [Fin.forall_fin_succ, Stages.ofByte]

theorem ofByte_outmap_asc (b : Image) :
    Stages.ofByte (outmap .asc b) = #v[some (b.getLsbD 7), some (b.getLsbD 6), some (b.getLsbD 5), some (b.getLsbD 4),
      some (b.getLsbD 3), some (b.getLsbD 2), some (b.getLsbD 1), some (b.getLsbD 0)] := by
  have hbit := getLsbD_outmap_asc b
  simp only [imgWidth, Fin.forall_fin_succ] at hbit
  simpa [Stages.ofByte] using hbit

/-- The eight shifts in the shift order leave the image as the pins show it, whatever the chain held (R211). -/
theorem shifts_eq_outmap (o : ShiftOrder) (b : Image) (old : Stages) :
    (shiftOrder o).foldl (fun c i => shiftIn c (imageElement b i)) old = Stages.ofByte (outmap o b) := by
  cases o with
  | desc => exact eight_shifts old _ _ _ _ _ _ _ _
  | asc => exact (eight_shifts old _ _ _ _ _ _ _ _).trans (ofByte_outmap_asc b).symm

/-! The external register. -/

theorem shiftBits_chain {s : State} (hclk : s.clk = false) (hf : s.params.registerFollows = true) (b : Image)
    (order : List (Fin imgWidth)) :
    (shiftBits b order s).chain = order.foldl (fun c i => shiftIn c (imageElement b i)) s.chain := by
  induction order generalizing s with
  | nil => rfl
  | cons i order ih =>
    rw [shiftBits_cons, ih (shiftBit_clk b i s) hf, shiftBit_chain hclk hf]
    rfl

/-- Settles O34: the shifts of the image put each of its elements in its stage. -/
theorem oldChainIsOverwritten : Obligations.OldChainIsOverwritten :=
  fun s b old hclk hf => (shiftBits_chain (s := { s with chain := old }) hclk hf b _).trans (shifts_eq_outmap _ b old)

/-- What the bits leave alone: the rows, the detector, the keypad agent, the latch line, the result, the observation of it
and the host. -/
theorem shiftBits_frame (b : Image) (order : List (Fin imgWidth)) (s : State) :
    (shiftBits b order s).rowOut = s.rowOut ∧ (shiftBits b order s).edgePrev = s.edgePrev ∧
    (shiftBits b order s).keypad = s.keypad ∧ (shiftBits b order s).draws = s.draws ∧
    (shiftBits b order s).latch = s.latch ∧ (shiftBits b order s).result = s.result ∧
    (shiftBits b order s).written = s.written ∧ (shiftBits b order s).responses = s.responses ∧
    (shiftBits b order s).host = s.host ∧ (shiftBits b order s).params = s.params := by
  induction order generalizing s with
  | nil => exact ⟨rfl, rfl, rfl, rfl, rfl, rfl, rfl, rfl, rfl, rfl⟩
  | cons i order ih => exact ih (shiftBit b i s)

/-- A whole line sequence that begins with the clock and the latch low loads the image where the register follows its
rules, and leaves nothing known where it does not (R208, X15, X16). -/
theorem writeSequence_loads {s : State} (hclk : s.clk = false) (hlatch : s.latch = false) (b : Image) :
    (writeSequence b s).chain = loaded s.params b ∧ (writeSequence b s).latched = loaded s.params b := by
  cases hf : s.params.registerFollows with
  | false =>
    have hloaded : loaded s.params b = Stages.unknown := by simp [loaded, hf]
    rw [hloaded]
    exact contentsUnknown_writeSequence b hf
  | true =>
    have hloaded : loaded s.params b = Stages.ofByte (outmap s.params.shiftOrder b) := by simp [loaded, hf]
    have hchain : (shiftBits b (shiftOrder s.params.shiftOrder) s).chain = loaded s.params b := by
      rw [hloaded, shiftBits_chain hclk hf, shifts_eq_outmap]
    have hparams := shiftBits_params b (shiftOrder s.params.shiftOrder) s
    obtain ⟨-, -, -, -, hbitsLatch, -⟩ := shiftBits_frame b (shiftOrder s.params.shiftOrder) s
    simp [writeSequence, pulseLatch, hparams, hchain, hbitsLatch, hlatch, keptContents_follows hf, qAfterLatch_pulse hf]

theorem writeSequence_frame (b : Image) (s : State) :
    (writeSequence b s).edgePrev = s.edgePrev ∧ (writeSequence b s).keypad = s.keypad ∧
    (writeSequence b s).draws = s.draws ∧ (writeSequence b s).host = s.host ∧
    (writeSequence b s).params = s.params := by
  simp [writeSequence, pulseLatch, shiftBits_frame]

/-- Settles O28: the line sequence field by field, and the response. -/
theorem writeArrayResultAndFrame : Obligations.WriteArrayResultAndFrame := by
  intro s b hclk hlatch
  obtain ⟨hchain, hlatched⟩ := writeSequence_loads (s := clock s) hclk hlatch b
  let t := completeWrite (writeSequence b (clock s))
  refine ⟨t.colSync, t.switches, t.clocks, congrArg Host.Outcome.next (State.ext ?_ ?_ ?_ ?_ ?_ ?_ rfl rfl rfl ?_ ?_
    rfl rfl ?_ ?_ rfl ?_ ?_ ?_ ?_)⟩
  all_goals
    simp [completeWrite, responded, resultWord_none, writeSequence_rowOut, writeSequence_data, writeSequence_clk,
      writeSequence_latch, writeSequence_responses, writeSequence_trace, writeSequence_frame, hchain, hlatched]

/-- What a write leaves on the pins, when the register follows its rules. -/
theorem exec_write_q {s : State} (hclk : s.clk = false) (hlatch : s.latch = false)
    (hf : s.params.registerFollows = true) (b : Image) :
    ∃ t, exec (.writeArray b) s = .next t ∧ t.q = Stages.ofByte (outmap s.params.shiftOrder b) ∧ t.chain = t.q ∧
      t.clk = false ∧ t.latch = false ∧ t.params = s.params := by
  obtain ⟨sync, P, n, hexec⟩ := writeArrayResultAndFrame s b hclk hlatch
  exact ⟨_, hexec, if_pos hf, rfl, rfl, rfl, rfl⟩

/-- Settles O32: the pins show the output map of the image, whose bits are the elements. -/
theorem outputsEqualTheImage : Obligations.OutputsEqualTheImage := by
  intro s b hclk hlatch hf
  obtain ⟨t, hexec, hq, hchain, -⟩ := exec_write_q hclk hlatch hf b
  refine ⟨t, hexec, hchain, fun ho k => ?_, fun ho k => ?_⟩
  · rw [hq, ho, getElem_ofByte]
    rfl
  · rw [hq, ho, getElem_ofByte, getLsbD_outmap_asc]

/-- Settles O33: both writes leave the same image on the pins, and each puts its own events on the lines. -/
theorem secondIdenticalWriteChangesNoOutput : Obligations.SecondIdenticalWriteChangesNoOutput := by
  intro s b hclk hlatch hf
  obtain ⟨t, hexec, hq, -, htclk, htlatch, hparams⟩ := exec_write_q hclk hlatch hf b
  obtain ⟨u, hexec', hq', -⟩ := exec_write_q htclk htlatch (hparams ▸ hf) b
  obtain ⟨v, hv, htrace, -⟩ := writeLineTrace t b
  cases hexec'.symm.trans hv
  exact ⟨t, u, hexec, hexec', by rw [hq', hq, hparams], hparams ▸ htrace⟩

/-! The counts of R205. -/

/-- Eight bits of `m` events each that are of a kind, and those of the latch pulse. -/
theorem countP_writeEvents {kind : LineEvent → Bool} {m : Nat} (p : Params) (b : Image)
    (hbit : ∀ i, (bitEvents p.holdTicks b i).countP kind = m) :
    (writeEvents p b).countP kind = 8 * m +
      [.drive .latch true, .hold p.holdTicks, .drive .latch false, .hold p.holdTicks].countP kind := by
  have hbits (order : List (Fin imgWidth)) :
      (order.flatMap (bitEvents p.holdTicks b)).countP kind = order.length * m := by
    induction order with
    | nil => simp
    | cons i order ih => rw [List.flatMap_cons, List.countP_append, hbit, ih, List.length_cons]; ring
  have hlength : (shiftOrder p.shiftOrder).length = 8 := by cases p.shiftOrder <;> rfl
  rw [writeEvents, List.countP_append, hbits, hlength]

/-- Settles O31: each count over R205's events and the response. -/
theorem writeTraceCounts : Obligations.WriteTraceCounts := by
  intro s b
  obtain ⟨t, hexec, htrace, -⟩ := writeLineTrace s b
  have hcount (kind : LineEvent → Bool) (m : Nat) (hbit : ∀ i, (bitEvents s.params.holdTicks b i).countP kind = m) :
      (writeEvents s.params b ++ [LineEvent.respond 0#16]).countP kind = 8 * m +
        [.drive .latch true, .hold s.params.holdTicks, .drive .latch false, .hold s.params.holdTicks,
          .respond 0#16].countP kind := by
    rw [List.countP_append, countP_writeEvents s.params b hbit, Nat.add_assoc, ← List.countP_append]
    rfl
  refine ⟨t, _, hexec, htrace.trans (List.append_assoc _ _ _), ?_, ?_, ?_, ?_, ?_, ?_, by simp, ?_⟩
  · rw [← List.countP_eq_length_filter]
    exact hcount _ 3 fun i => rfl
  · rw [← List.countP_eq_length_filter]
    refine (hcount _ 3 fun i => ?_).trans ?_
    · simp [bitEvents]
    · simp
  · exact hcount (· == .drive .clk true) 1 fun i => rfl
  · exact hcount (· == .drive .clk false) 1 fun i => rfl
  · exact hcount (· == .drive .latch true) 0 fun i => rfl
  · exact hcount (· == .drive .latch false) 0 fun i => rfl
  · rw [← List.countP_true]
    exact hcount (fun _ => true) 6 fun i => rfl

/-! The other faults and frames (R79, R207). -/

/-- Settles O37: the response is the result 0, and a faulty register's contents are unknown after its last drive. -/
theorem writeNeverFailsAndFaultyOutputsAreUnknown : Obligations.WriteNeverFailsAndFaultyOutputsAreUnknown := by
  refine fun s b => ⟨completeWrite (writeSequence b (clock s)), rfl, resultWord_none, ?_, fun hf => ?_⟩
  · simp [completeWrite, resultWord_none, writeSequence_responses]
  · obtain ⟨hchain, hlatched⟩ := contentsUnknown_writeSequence b (s := clock s) hf
    exact ⟨hlatched, hchain⟩

/-- Settles O39: what the line sequence leaves alone, and the trace it only adds to. -/
theorem writeArrayLeavesTheScanner : Obligations.WriteArrayLeavesTheScanner := by
  intro s b
  obtain ⟨hedge, hkeypad, hdraws, hhost, hparams⟩ := writeSequence_frame b (clock s)
  have hexec : exec (.writeArray b) s = .next (completeWrite (writeSequence b (clock s))) := rfl
  obtain ⟨l, hl, -⟩ := (rowsStayLegal_of_exec hexec).trace
  exact ⟨_, hexec, writeSequence_rowOut b (clock s), hedge, hkeypad, hdraws, hhost, hparams, l, hl.symm⟩

/-- The lines of the driver and the external register are the same in both states. -/
structure SameDriver (s t : State) : Prop where
  data    : t.data = s.data
  clk     : t.clk = s.clk
  latch   : t.latch = s.latch
  chain   : t.chain = s.chain
  latched : t.latched = s.latched
  written : t.written = s.written

theorem SameDriver.q {s t : State} (h : SameDriver s t) : t.q = s.q := by
  rw [State.q, State.q, h.written, h.latched]

theorem SameDriver.trans {s t u : State} (hst : SameDriver s t) (htu : SameDriver t u) : SameDriver s u :=
  ⟨htu.data.trans hst.data, htu.clk.trans hst.clk, htu.latch.trans hst.latch, htu.chain.trans hst.chain,
    htu.latched.trans hst.latched, htu.written.trans hst.written⟩

theorem sameDriver_clock (s : State) : SameDriver s (clock s) := ⟨rfl, rfl, rfl, rfl, rfl, rfl⟩

theorem sameDriver_scan (s : State) : SameDriver s (scan s).2 := by
  obtain ⟨hdata, hclk, hlatch, hchain, hlatched, hwritten, -⟩ := scanRows_frame scanOrder s
  exact ⟨hdata, hclk, hlatch, hchain, hlatched, hwritten⟩

theorem sameDriver_complete {i : Instr} (hi : ∀ b, i ≠ .writeArray b) (found : Option Key) (s : State) :
    SameDriver s (complete i found s) := by
  cases i with
  | poll | pollE | edgeNone | edge => exact ⟨rfl, rfl, rfl, rfl, rfl, rfl⟩
  | writeArray b => exact absurd rfl (hi b)

/-- No command but `WRITE_ARRAY` touches the driver (R79). -/
theorem sameDriver_of_exec {i : Instr} (hi : ∀ b, i ≠ .writeArray b) {s t : State} (h : exec i s = .next t) :
    SameDriver s t := by
  have hscan := (sameDriver_clock s).trans (sameDriver_scan (clock s))
  cases i with
  | poll => cases (exec_of_poll (.inl rfl) s).symm.trans h; exact hscan.trans (sameDriver_complete hi _ _)
  | pollE => cases (exec_of_poll (.inr rfl) s).symm.trans h; exact hscan.trans (sameDriver_complete hi _ _)
  | edgeNone => cases (exec_edgeOf none s).symm.trans h; exact ⟨rfl, rfl, rfl, rfl, rfl, rfl⟩
  | edge k => cases (exec_edgeOf (some k) s).symm.trans h; exact ⟨rfl, rfl, rfl, rfl, rfl, rfl⟩
  | writeArray b => exact absurd rfl (hi b)

/-- Settles O38: the driver, the inputs, the trace and, for each command, what else it leaves alone. -/
theorem scannerCommandsLeaveTheDriver : Obligations.ScannerCommandsLeaveTheDriver := by
  intro s i hi
  obtain ⟨t, hexec, -⟩ := exec_responds i s
  obtain ⟨l, hl, -⟩ := (rowsStayLegal_of_exec hexec).trace
  have hdriver := sameDriver_of_exec hi hexec
  have hinputs := sameInputs_of_exec hexec
  refine ⟨t, hexec, hdriver.data, hdriver.clk, hdriver.latch, hdriver.chain, hdriver.q, hdriver.latched,
    hdriver.written, hinputs.host, hinputs.params, ⟨l, hl.symm⟩, ?_, ?_⟩
  · rintro rfl
    exact edgePrev_of_exec (not_runsDetector_iff.mpr (.inl rfl)) hexec
  · rintro x rfl
    cases (exec_edgeOf x s).symm.trans hexec
    exact ⟨rfl, rfl, rfl⟩

end Sys2Proof.Proofs
end

section
/-! The keypad's graph under `IDEAL` (R160, R161): `rowsConnected` is the connected component of a column, since a join that
adds no row has closed the set, and a set of rows can grow no more than three times. -/

namespace Sys2Proof.Proofs

open Sys2Proof.Machine Sys2Proof.Laws Sys2Proof.Expect

/-! The joins, bit by bit. -/

theorem getLsbD_rowsAt (P : Switches) (k : Fin nCols) (r : Fin nRows) :
    (rowsAt P k).getLsbD r.val = P[r].getLsbD k.val := by
  revert r
  simp only [rowsAt, BitVec.getLsbD_append, BitVec.getLsbD_ofBool]
  simp [Fin.forall_fin_succ]

theorem nibble_ne_zero_iff (v : Nibble) : v ≠ 0#4 ↔ ∃ j : Fin nCols, v.getLsbD j.val = true := by
  revert v; decide

theorem getLsbD_onehot4 (a r : Fin nRows) : (onehot4 a).getLsbD r.val = true ↔ a = r := by
  revert a r; decide

theorem mem_scanOrder (r : Fin nRows) : r ∈ scanOrder := by revert r; decide

/-- A bit of a union over the rows that meet a condition. -/
theorem getLsbD_foldl_or (c : Fin nRows → Prop) [DecidablePred c] (set : Fin nRows → Nibble) (j : Nat)
    (l : List (Fin nRows)) (acc : Nibble) :
    (l.foldl (fun acc r => if c r then acc ||| set r else acc) acc).getLsbD j = true ↔
      acc.getLsbD j = true ∨ ∃ r ∈ l, c r ∧ (set r).getLsbD j = true := by
  induction l generalizing acc with
  | nil => simp
  | cons r l ih =>
    rw [List.foldl_cons, ih]
    by_cases hr : c r
    · simp [hr, or_assoc]
    · simp [hr]

/-- A column is joined to a set of rows when one of them closes onto it (R160). -/
theorem getLsbD_colsOf (P : Switches) (rows : Nibble) (j : Fin nCols) :
    (colsOf P rows).getLsbD j.val = true ↔ ∃ r : Fin nRows, rows.getLsbD r.val = true ∧ P[r].getLsbD j.val = true := by
  rw [colsOf, getLsbD_foldl_or]
  simp [mem_scanOrder]

/-- Two rows share a column by two closed switches (R160). -/
def ShareColumn (P : Switches) (r r' : Fin nRows) : Prop :=
  ∃ j : Fin nCols, P[r].getLsbD j.val = true ∧ P[r'].getLsbD j.val = true

/-- A row is in the join of a set when it was in the set or shares a column with a row of it. -/
theorem getLsbD_joinRows (P : Switches) (rows : Nibble) (r : Fin nRows) :
    (joinRows P rows).getLsbD r.val = true ↔
      rows.getLsbD r.val = true ∨ ∃ r', rows.getLsbD r'.val = true ∧ ShareColumn P r' r := by
  have hshare : P[r] &&& colsOf P rows ≠ 0#4 ↔ ∃ r', rows.getLsbD r'.val = true ∧ ShareColumn P r' r := by
    simp only [nibble_ne_zero_iff, BitVec.getLsbD_and, Bool.and_eq_true, getLsbD_colsOf, ShareColumn]
    constructor
    · rintro ⟨j, hr, r', hr', hclosed⟩
      exact ⟨r', hr', j, hclosed, hr⟩
    · rintro ⟨r', hr', j, hclosed, hr⟩
      exact ⟨j, hr, r', hr', hclosed⟩
  rw [joinRows, getLsbD_foldl_or, ← hshare]
  simp only [mem_scanOrder, getLsbD_onehot4, true_and, exists_eq_right]

/-! The component is closed under joins. -/

/-- How many rows are in a set. -/
def rowCount (rows : Nibble) : Nat := scanOrder.countP fun r => rows.getLsbD r.val

theorem rowCount_le (rows : Nibble) : rowCount rows ≤ 4 := List.countP_le_length

theorem rowCount_pos {rows : Nibble} (h : rows ≠ 0#4) : 0 < rowCount rows := by
  revert rows; decide

theorem rowCount_lt {rows more : Nibble} (hsub : rows ||| more = more) (hne : more ≠ rows) :
    rowCount rows < rowCount more := by
  revert rows more; decide

theorem joinRows_grows (P : Switches) (rows : Nibble) : rows ||| joinRows P rows = joinRows P rows := by
  apply BitVec.eq_of_getLsbD_eq
  intro i hi
  have hjoin := (getLsbD_joinRows P rows ⟨i, hi⟩).mpr
  rw [BitVec.getLsbD_or, Bool.or_eq_right_iff_imp]
  exact fun hrow => hjoin (.inl hrow)

theorem joinRows_zero (P : Switches) : joinRows P 0#4 = 0#4 := by
  by_contra hne
  obtain ⟨r, hr⟩ := (nibble_ne_zero_iff _).mp hne
  simpa using (getLsbD_joinRows P 0#4 r).mp hr

/-- Three joins close the set: each join before a closed one adds a row, and a set that is not empty has room for three. -/
theorem joinRows_rowsConnected (P : Switches) (k : Fin nCols) : joinRows P (rowsConnected P k) = rowsConnected P k := by
  unfold rowsConnected
  by_contra h3
  have h2 := fun h => h3 (congrArg (joinRows P) h)
  have h1 := fun h => h2 (congrArg (joinRows P) h)
  have h0 := fun h => h1 (congrArg (joinRows P) h)
  have hstart : rowsAt P k ≠ 0#4 := fun hzero => h0 (by rw [hzero, joinRows_zero])
  have hpos := rowCount_pos hstart
  have hlt0 := rowCount_lt (joinRows_grows P _) h0
  have hlt1 := rowCount_lt (joinRows_grows P _) h1
  have hlt2 := rowCount_lt (joinRows_grows P _) h2
  have hlt3 := rowCount_lt (joinRows_grows P _) h3
  have hle := rowCount_le (joinRows P (joinRows P (joinRows P (joinRows P (rowsAt P k)))))
  omega

/-- Every row of a set is joined to the column. -/
def AllJoined (P : Switches) (k : Fin nCols) (rows : Nibble) : Prop :=
  ∀ r : Fin nRows, rows.getLsbD r.val = true → Joined P k r

theorem allJoined_rowsAt (P : Switches) (k : Fin nCols) : AllJoined P k (rowsAt P k) :=
  fun r hr => .direct r (getLsbD_rowsAt P k r ▸ hr)

theorem AllJoined.joinRows {P : Switches} {k : Fin nCols} {rows : Nibble} (h : AllJoined P k rows) :
    AllJoined P k (joinRows P rows) := by
  intro r hr
  obtain hr | ⟨r', hr', j, hclosed', hclosed⟩ := (getLsbD_joinRows P rows r).mp hr
  · exact h r hr
  · exact .through r' r j (h r' hr') hclosed' hclosed

theorem getLsbD_rowsConnected_of_rowsAt {P : Switches} {k : Fin nCols} {r : Fin nRows}
    (h : (rowsAt P k).getLsbD r.val = true) : (rowsConnected P k).getLsbD r.val = true := by
  have hgrow {rows : Nibble} (hr : rows.getLsbD r.val = true) : (joinRows P rows).getLsbD r.val = true :=
    (getLsbD_joinRows P rows r).mpr (.inl hr)
  exact hgrow (hgrow (hgrow h))

/-- `rowsConnected` is R160's connected component of the column. -/
theorem getLsbD_rowsConnected_iff (P : Switches) (k : Fin nCols) (r : Fin nRows) :
    (rowsConnected P k).getLsbD r.val = true ↔ Joined P k r := by
  constructor
  · exact (allJoined_rowsAt P k).joinRows.joinRows.joinRows r
  · intro h
    induction h with
    | direct r hclosed => exact getLsbD_rowsConnected_of_rowsAt (by rw [getLsbD_rowsAt, hclosed])
    | through r r' j _ hclosed hclosed' ih =>
      rw [← joinRows_rowsConnected]
      exact (getLsbD_joinRows P _ r').mpr (.inr ⟨r, ih, j, hclosed, hclosed'⟩)

/-! What a column reads. -/

theorem getLsbD_idealSample (P : Switches) (high draw : Nibble) (k : Fin nCols) :
    (idealSample P high draw).getLsbD k.val = idealColumn P high (draw.getLsbD k.val) k := by
  revert k
  simp only [idealSample, BitVec.getLsbD_append, BitVec.getLsbD_ofBool]
  simp [Fin.forall_fin_succ]

theorem and_onehot4_eq_zero_iff (v : Nibble) (a : Fin nRows) : v &&& onehot4 a = 0#4 ↔ ¬ v.getLsbD a.val = true := by
  revert v a; decide

theorem and_not_onehot4_eq_zero_iff (v : Nibble) (a : Fin nRows) :
    v &&& ~~~onehot4 a = 0#4 ↔ ∀ r, v.getLsbD r.val = true → r = a := by
  revert v a; decide

/-- The active row is not in the column's component: the column reads 0 (R160). -/
theorem idealSample_of_not_joined {P : Switches} {k : Fin nCols} {a : Fin nRows} (draw : Nibble) (h : ¬ Joined P k a) :
    (idealSample P (onehot4 a) draw).getLsbD k.val = false := by
  have hclear := (and_onehot4_eq_zero_iff _ a).mpr (mt (getLsbD_rowsConnected_iff P k a).mp h)
  rw [getLsbD_idealSample]
  simp [idealColumn, hclear]

/-- The active row is the whole component: the column reads 1 (R160). -/
theorem idealSample_of_only_joined {P : Switches} {k : Fin nCols} {a : Fin nRows} (draw : Nibble)
    (h : ∀ r, Joined P k r ↔ r = a) : (idealSample P (onehot4 a) draw).getLsbD k.val = true := by
  have hset := mt (and_onehot4_eq_zero_iff (rowsConnected P k) a).mp
    (not_not_intro ((getLsbD_rowsConnected_iff P k a).mpr ((h a).mpr rfl)))
  have honly := (and_not_onehot4_eq_zero_iff (rowsConnected P k) a).mpr fun r hr =>
    (h r).mp ((getLsbD_rowsConnected_iff P k r).mp hr)
  rw [getLsbD_idealSample]
  simp [idealColumn, hset, honly]

/-- The active row and another are in the component: drivers contend, and the column reads its draw (R160). -/
theorem idealSample_of_contended {P : Switches} {k : Fin nCols} {a r : Fin nRows} (draw : Nibble) (ha : Joined P k a)
    (hr : Joined P k r) (hne : r ≠ a) : (idealSample P (onehot4 a) draw).getLsbD k.val = draw.getLsbD k.val := by
  have hset := mt (and_onehot4_eq_zero_iff (rowsConnected P k) a).mp
    (not_not_intro ((getLsbD_rowsConnected_iff P k a).mpr ha))
  have hother := mt (and_not_onehot4_eq_zero_iff (rowsConnected P k) a).mp
    fun hall => hne (hall r ((getLsbD_rowsConnected_iff P k r).mpr hr))
  rw [getLsbD_idealSample]
  simp [idealColumn, hset, hother]

theorem idealSample_low (P : Switches) (draw : Nibble) : idealSample P 0#4 draw = 0#4 := by
  apply BitVec.eq_of_getLsbD_eq
  intro i hi
  rw [getLsbD_idealSample P 0#4 draw ⟨i, hi⟩]
  simp [idealColumn]

/-- Settles O20: the component, and the rows of R160's table, each by the lemma of its case. -/
theorem idealSampleFollowsTheGraph : Obligations.IdealSampleFollowsTheGraph :=
  ⟨getLsbD_rowsConnected_iff, fun P _ a draw => ⟨fun h => idealSample_of_not_joined draw (h a),
    idealSample_of_only_joined draw, idealSample_of_not_joined draw,
    fun ha ⟨_, hne, hr⟩ => idealSample_of_contended draw ha hr hne, idealSample_low P draw⟩⟩

/-! No column shared (R161). -/

/-- No two closed switches in one column. -/
def NoColumnShared (P : Switches) : Prop :=
  ∀ (k : Fin nCols) (r r' : Fin nRows), P[r].getLsbD k.val = true → P[r'].getLsbD k.val = true → r = r'

/-- Where no column is shared, only the row that closes onto a column is joined to it. -/
theorem joined_iff_closed {P : Switches} (h : NoColumnShared P) (k : Fin nCols) (r : Fin nRows) :
    Joined P k r ↔ P[r].getLsbD k.val = true := by
  constructor
  · intro hjoined
    induction hjoined with
    | direct r hclosed => exact hclosed
    | through r r' j _ hclosed hclosed' ih => exact h j r r' hclosed hclosed' ▸ ih
  · exact .direct r

theorem idealSample_eq_switches {P : Switches} (h : NoColumnShared P) (a : Fin nRows) (draw : Nibble) :
    idealSample P (onehot4 a) draw = P[a] := by
  apply BitVec.eq_of_getLsbD_eq
  intro i hi
  cases hclosed : P[a].getLsbD i with
  | false =>
    refine idealSample_of_not_joined (k := ⟨i, hi⟩) draw fun hjoined => ?_
    cases hclosed.symm.trans ((joined_iff_closed h ⟨i, hi⟩ a).mp hjoined)
  | true =>
    refine idealSample_of_only_joined (k := ⟨i, hi⟩) draw fun r => ?_
    rw [joined_iff_closed h]
    exact ⟨fun hr => h ⟨i, hi⟩ r a hr hclosed, fun hr => hr ▸ hclosed⟩

/-- Settles O21: each sample is its row of switches, so the scan finds the lowest closed one. -/
theorem idealPollReportsLowestClosedSwitch : Obligations.IdealPollReportsLowestClosedSwitch := by
  refine fun P h => ⟨idealSample_eq_switches h, fun s hsettles henv hP => ?_⟩
  have hsample (r : Fin nRows) : rowSample s r = P[r] := by
    rw [rowSample, henv, sampleOf_ideal, hP, idealSample_eq_switches h]
  have hfound : found s = lowestClosed P := by
    simp only [found, hsample]
    rfl
  obtain ⟨t, hexec, hresult⟩ := exec_poll_result hsettles
  exact ⟨t, hexec, by rw [hresult, foundKey, hfound]⟩

end Sys2Proof.Proofs
end

section
/-! The two levels of R5 agree: a command's ticks lead through the states of its meaning to the response, since the
sequencer's fields are looked at by no line event, and they lead there in the number of ticks R285 gives. -/

namespace Sys2Proof.Proofs

open Sys2Proof.Machine Sys2Proof.Laws Sys2Proof.Expect

/-! A state with a command running. -/

/-- The state with a command running, whose fields are `q`, and no response in the latest tick. -/
def running (q : Sequencer) (s : State) : State := { s with rspValid := false, seq := some q }

theorem setSeq_running (q q' : Sequencer) (s : State) : State.setSeq q' (running q s) = running q' s := rfl

theorem accept_eq_running (i : Instr) (s : State) : accept i s = running (startOf s.params i) (clock s) := rfl

theorem runTick_running (q : Sequencer) (s : State) : runTick (running q s) = seqTick q (running q s) := rfl

theorem complete_running (i : Instr) (found : Option Key) (q : Sequencer) (s : State) :
    complete i found (running q s) = complete i found s := by
  cases i <;> rfl

theorem settleTick_running (q : Sequencer) (left : Nat) (s : State) :
    settleTick left (running q s) = running q (settleTick left s) := by
  unfold settleTick
  split <;> rfl

theorem passTicks_running {tickAt : Nat → State → State} {q : Sequencer}
    (h : ∀ left s, tickAt left (running q s) = running q (tickAt left s)) (n : Nat) (s : State) :
    passTicks tickAt n (running q s) = running q (passTicks tickAt n s) := by
  induction n generalizing s with
  | zero => rfl
  | succ n ih => rw [passTicks, h, ih, passTicks]

theorem waitFor_running {tickAt : Nat → State → State} {q : Sequencer} (hok : OnlyTheKeypad tickAt)
    (h : ∀ left s, tickAt left (running q s) = running q (tickAt left s)) (n : Nat) (s : State) :
    waitFor tickAt n (running q s) = running q (waitFor tickAt n s) := by
  rw [waitFor_eq_ticks hok, waitFor_eq_ticks hok, passTicks_running h]
  rfl

theorem visitRow_running (q : Sequencer) (r : Fin nRows) (s : State) :
    visitRow r (running q s) = running q (visitRow r s) :=
  waitFor_running settleTick_onlyTheKeypad (settleTick_running q) s.params.settleTicks (driveRows (onehot4 r) s)

theorem holdLine_running (q : Sequencer) (s : State) : holdLine (running q s) = running q (holdLine s) :=
  waitFor_running clock_onlyTheKeypad (fun _ _ => rfl) s.params.holdTicks s

theorem shiftBit_running (q : Sequencer) (b : Image) (i : Fin imgWidth) (s : State) :
    shiftBit b i (running q s) = running q (shiftBit b i s) := by
  have hdata (v : Bool) (u : State) : driveData v (running q u) = running q (driveData v u) := rfl
  have hclk (v : Bool) (u : State) : driveClk v (running q u) = running q (driveClk v u) := rfl
  simp only [shiftBit, hdata, hclk, holdLine_running]

/-! The scan's ticks. -/

/-- The fields at the beginning of row `r` of a scan. -/
def atRow (q : Sequencer) (r : Fin nRows) : Sequencer := { q with phase := .driveRow, row := r, hold := 0 }

/-- The ticks of one row (R141 to R143): it is driven, it settles and it is sampled. -/
theorem runTicks_row (q : Sequencer) (r : Fin nRows) {s : State} (h1 : 1 ≤ s.params.settleTicks) :
    runTicks (s.params.settleTicks + 2) (running (atRow q r) s) =
      sampleTick { atRow q r with phase := .sample } (running { atRow q r with phase := .sample } (visitRow r s)) := by
  have hvisit := runTicks_visitRow (q := atRow q r) (s := running (atRow q r) s) rfl rfl rfl h1
  have hparams : (running (atRow q r) s).params = s.params := rfl
  have hrow : (atRow q r).row = r := rfl
  rw [visitRow_running, setSeq_running, hparams, hrow] at hvisit
  rw [show s.params.settleTicks + 2 = 1 + s.params.settleTicks + 1 by omega, runTicks_add, hvisit]
  rfl

/-- A row in which nothing is active, and which is not the last, leads to the next row (R144). -/
theorem runTicks_row_inactive (q : Sequencer) {r : Fin nRows} (hr : r ≠ 3) {s : State}
    (h1 : 1 ≤ s.params.settleTicks) (hsample : columnSample (visitRow r s) = 0#4) :
    runTicks (s.params.settleTicks + 2) (running (atRow q r) s) =
      running (atRow q (r + 1)) (afterSample (visitRow r s)) := by
  have hseen : columnSample (running { atRow q r with phase := .sample } (visitRow r s)) = 0#4 := hsample
  rw [runTicks_row q r h1, sampleTick]
  simp only [hseen, ne_eq, not_true_eq_false, if_false]
  exact if_neg hr

/-- The row a scan ends at leads to the low drive with the key found, whether it is active or the last one (R149). -/
theorem runTicks_row_last (q : Sequencer) {s u : State} (h1 : 1 ≤ u.params.settleTicks) (hparams : u.params = s.params)
    (hsample : columnSample (visitRow (lastRow s) u) = rowSample s (lastRow s)) :
    runTicks (u.params.settleTicks + 2) (running (atRow q (lastRow s)) u) =
      running { atRow q (lastRow s) with phase := .park, pending := foundKey s }
        (afterSample (visitRow (lastRow s) u)) := by
  have hseen : columnSample (running { atRow q (lastRow s) with phase := .sample } (visitRow (lastRow s) u)) =
      rowSample s (lastRow s) := hsample
  rw [runTicks_row q _ h1, sampleTick]
  simp only [hseen]
  obtain hnone | ⟨⟨r, c⟩, hpos⟩ := Option.eq_none_or_eq_some (found s)
  · have hzero := (found_eq_none_iff s).mp hnone (lastRow s)
    have hkey : foundKey s = none := by rw [foundKey, hnone]; rfl
    rw [if_neg (not_not_intro hzero), hkey]
    exact if_pos (lastRow_of_found_none hnone)
  · have hlast := lastRow_of_found hpos
    obtain ⟨hactive, hcol, -⟩ := first_of_found hpos
    have hkey : foundKey s = some (keyAt u.params (r, ctz4 (rowSample s r))) := by
      rw [foundKey, hpos, hcol, hparams]; rfl
    dsimp only at hlast
    rw [hlast, if_pos hactive, hkey]
    rfl

/-- The rows before row `lastRow s` are inactive (R144). -/
theorem rowSample_before_lastRow {s : State} {r : Fin nRows} (h : r < lastRow s) : rowSample s r = 0#4 := by
  obtain hnone | ⟨pos, hpos⟩ := Option.eq_none_or_eq_some (found s)
  · exact (found_eq_none_iff s).mp hnone r
  · obtain ⟨-, -, hbefore⟩ := first_of_found hpos
    exact hbefore r (lastRow_of_found hpos ▸ h)

/-- The ticks of the rows before row `r`, none of which ends the scan. -/
theorem runTicks_rows (q : Sequencer) {s : State} (h : Settles s) (r : Fin nRows) (hr : r ≤ lastRow s) :
    runTicks (r.val * (s.params.settleTicks + 2)) (running (atRow q 0) s) =
      running (atRow q r) (sampleRows (scanOrder.take r.val) s) := by
  obtain ⟨n, hn⟩ := r
  induction n with
  | zero => simp [runTicks, sampleRows]
  | succ n ih =>
    have hn' : n < nRows := Nat.lt_of_succ_lt hn
    have hlt : (⟨n, hn'⟩ : Fin nRows) < lastRow s := Nat.lt_of_succ_le hr
    have hsettle : 1 ≤ s.params.settleTicks := Nat.le_trans (by decide) h
    have hlast : (⟨n, hn'⟩ : Fin nRows) ≠ 3 := Fin.ne_of_val_ne (by simp only [nRows] at hn ⊢; omega)
    have hnext : (⟨n, hn'⟩ + 1 : Fin nRows) = ⟨n + 1, hn⟩ := Fin.ext (Nat.mod_eq_of_lt hn)
    have hinactive := (columnSample_sampleRows h ⟨n, hn'⟩).trans (rowSample_before_lastRow hlt)
    have hrow := runTicks_row_inactive q hlast (s := sampleRows (scanOrder.take n) s)
      (by rw [sampleRows_params]; exact hsettle) hinactive
    rw [sampleRows_params, hnext, ← sampleRows_concat] at hrow
    rw [Nat.succ_mul, runTicks_add, ih hn' hlt.le, hrow, ← take_succ_scanOrder ⟨n, hn'⟩]

theorem runTicks_park {q : Sequencer} (hq : q.phase = .park) (s : State) :
    runTicks 1 (running q s) = running { q with phase := .respond } (driveRows 0#4 s) := by
  rw [runTicks, runTicks, runTick_running, seqTick, hq]
  rfl

/-- The ticks of a scan up to its low drive (R149, R285), the key found pending. -/
theorem runTicks_scan (q : Sequencer) {s : State} (h : Settles s) :
    runTicks (((lastRow s).val + 1) * (s.params.settleTicks + 2) + 1) (running (atRow q 0) s) =
      running { atRow q (lastRow s) with phase := .respond, pending := foundKey s } (scan s).2 := by
  have hsettle : 1 ≤ s.params.settleTicks := Nat.le_trans (by decide) h
  have hlast := runTicks_row_last q (s := s) (u := sampleRows (scanOrder.take (lastRow s).val) s)
    (by rw [sampleRows_params]; exact hsettle) (sampleRows_params _ s) (columnSample_sampleRows h (lastRow s))
  rw [sampleRows_params, ← sampleRows_concat, ← take_succ_scanOrder] at hlast
  rw [Nat.succ_mul, runTicks_add, runTicks_add, runTicks_rows q h (lastRow s) le_rfl, hlast, runTicks_park rfl, scan_eq h]

theorem lastRow_clock (s : State) : lastRow (clock s) = lastRow s := rfl

theorem foundKey_clock (s : State) : foundKey (clock s) = foundKey s := rfl

/-- The same from the tick of acceptance on. -/
theorem runTicks_scan_clock (q : Sequencer) {s : State} (h : Settles s) :
    runTicks (((lastRow s).val + 1) * (s.params.settleTicks + 2) + 1) (running (atRow q 0) (clock s)) =
      running { atRow q (lastRow s) with phase := .respond, pending := foundKey s } (scan (clock s)).2 := by
  have hclock : Settles (clock s) := h
  have hscan := runTicks_scan q hclock
  rw [lastRow_clock, foundKey_clock, clock_params] at hscan
  exact hscan

theorem exec_of_settled_poll {i : Instr} (hi : i = .poll ∨ i = .pollE) {s : State} (h : Settles s) :
    exec i s = .next (complete i (foundKey s) (scan (clock s)).2) := by
  rw [exec_of_poll hi, lookup_scan_clock h]

/-! The write's ticks. -/

/-- The element an image's `k`-th shift takes. -/
def elementAt (o : ShiftOrder) (k : Nat) : Fin imgWidth := (shiftOrder o).getD k 0

theorem nextElement_elementAt (o : ShiftOrder) {k : Nat} (hk : k < 7) :
    nextElement o (elementAt o k) = some (elementAt o (k + 1)) := by
  have hall : ∀ k < 7, nextElement o (elementAt o k) = some (elementAt o (k + 1)) := by cases o <;> decide
  exact hall k hk

theorem elementAt_seven (o : ShiftOrder) : elementAt o 7 = lastElement o := by cases o <;> rfl

theorem take_succ_shiftOrder (o : ShiftOrder) {k : Nat} (hk : k < 8) :
    (shiftOrder o).take (k + 1) = (shiftOrder o).take k ++ [elementAt o k] := by
  have hall : ∀ k < 8, (shiftOrder o).take (k + 1) = (shiftOrder o).take k ++ [elementAt o k] := by cases o <;> decide
  exact hall k hk

/-- The fields at the beginning of the `k`-th bit of a write. -/
def atBit (q : Sequencer) (o : ShiftOrder) (k : Nat) : Sequencer :=
  { q with phase := .setData, bit := elementAt o k, hold := 0 }

/-- A write starts at its first bit (R204). -/
theorem startOf_writeArray (p : Params) (b : Image) :
    startOf p (.writeArray b) = atBit (startOf p (.writeArray b)) p.shiftOrder 0 := by
  have hfirst : firstElement p.shiftOrder = elementAt p.shiftOrder 0 := by cases p.shiftOrder <;> rfl
  rw [startOf, hfirst]
  rfl

/-- The fields at the beginning of a write's latch pulse. -/
def atLatch (q : Sequencer) (o : ShiftOrder) : Sequencer :=
  { q with phase := .latchHigh, bit := lastElement o, hold := 0 }

theorem afterBit_atBit (q : Sequencer) (o : ShiftOrder) {k : Nat} (hk : k < 7) :
    afterBit o (atBit q o k) = atBit q o (k + 1) := by
  simp only [afterBit, atBit, nextElement_elementAt o hk]

theorem afterBit_last (q : Sequencer) (o : ShiftOrder) : afterBit o (atBit q o 7) = atLatch q o := by
  simp only [afterBit, atBit, elementAt_seven, nextElement_last]
  rfl

theorem runTicks_bit_running (q : Sequencer) (k : Nat) {s : State} (h1 : 1 ≤ s.params.holdTicks) :
    runTicks (3 * (1 + s.params.holdTicks)) (running (atBit q s.params.shiftOrder k) s) =
      running (afterBit s.params.shiftOrder (atBit q s.params.shiftOrder k))
        (shiftBit q.img (elementAt s.params.shiftOrder k) s) := by
  have hbit := runTicks_bit (q := atBit q s.params.shiftOrder k) (s := running (atBit q s.params.shiftOrder k) s)
    rfl rfl rfl h1
  rw [shiftBit_running, setSeq_running] at hbit
  exact hbit

/-- The ticks of the first `k` bits of a write. -/
theorem runTicks_bits (q : Sequencer) {s : State} (h1 : 1 ≤ s.params.holdTicks) {k : Nat} (hk : k ≤ 7) :
    runTicks (k * (3 * (1 + s.params.holdTicks))) (running (atBit q s.params.shiftOrder 0) s) =
      running (atBit q s.params.shiftOrder k) (shiftBits q.img ((shiftOrder s.params.shiftOrder).take k) s) := by
  induction k with
  | zero => simp [runTicks, shiftBits_nil]
  | succ k ih =>
    have hbit := runTicks_bit_running q k (s := shiftBits q.img ((shiftOrder s.params.shiftOrder).take k) s)
      (by rw [shiftBits_params]; exact h1)
    rw [shiftBits_params, afterBit_atBit q _ hk, ← shiftBits_concat, ← take_succ_shiftOrder _ (by omega)] at hbit
    rw [Nat.succ_mul, runTicks_add, ih (by omega), hbit]

/-- The ticks of all eight bits. -/
theorem runTicks_eight_bits (q : Sequencer) {s : State} (h1 : 1 ≤ s.params.holdTicks) :
    runTicks (24 * (1 + s.params.holdTicks)) (running (atBit q s.params.shiftOrder 0) s) =
      running (atLatch q s.params.shiftOrder) (shiftBits q.img (shiftOrder s.params.shiftOrder) s) := by
  have hbit := runTicks_bit_running q 7 (s := shiftBits q.img ((shiftOrder s.params.shiftOrder).take 7) s)
    (by rw [shiftBits_params]; exact h1)
  have horder : (shiftOrder s.params.shiftOrder).take (7 + 1) = shiftOrder s.params.shiftOrder := by
    cases s.params.shiftOrder <;> rfl
  rw [shiftBits_params, afterBit_last, ← shiftBits_concat, ← take_succ_shiftOrder _ (by decide), horder] at hbit
  rw [show 24 * (1 + s.params.holdTicks) = 7 * (3 * (1 + s.params.holdTicks)) + 3 * (1 + s.params.holdTicks) by ring,
    runTicks_add, runTicks_bits q h1 le_rfl, hbit]

/-- The ticks of one transition of the latch line and of the hold after it (R202, R203). -/
theorem runTicks_driveLatch {q : Sequencer} {ph after : Phase} {v : Bool} {s : State} (h1 : 1 ≤ s.params.holdTicks)
    (hdrive : ∀ u, u.params = s.params →
      seqTick q u = State.setSeq { q with phase := ph, hold := s.params.holdTicks } (driveLatch v u))
    (hhold : ∀ (q : Sequencer) (u : State), q.phase = ph → u.params = s.params →
      seqTick q u = holdTick (fun _ => clock) s.params.holdTicks after q u) :
    runTicks (1 + s.params.holdTicks) (running q s) =
      running { q with phase := after, hold := 0 } (holdLine (driveLatch v s)) := by
  have hticks := runTicks_driveHold clock_passes clock_onlyTheKeypad (s := running q s)
    (t := running q (driveLatch v s)) rfl rfl (hdrive (running q s) rfl) rfl rfl h1 hhold
  have hwait : waitFor (fun _ => clock) s.params.holdTicks (running q (driveLatch v s)) =
      running q (holdLine (driveLatch v s)) := holdLine_running q (driveLatch v s)
  rw [hticks, hwait, setSeq_running]

/-- The ticks of the latch pulse (R202). -/
theorem runTicks_pulseLatch (q : Sequencer) (o : ShiftOrder) {s : State} (h1 : 1 ≤ s.params.holdTicks) :
    runTicks (2 * (1 + s.params.holdTicks)) (running (atLatch q o) s) =
      running { atLatch q o with phase := .respond } (pulseLatch s) := by
  have hhigh := runTicks_driveLatch (q := atLatch q o) (ph := .holdLatchHigh) (after := .latchLow) (v := true) h1
    (fun u hp => by simp [seqTick, atLatch, hp]) (fun q u hq hp => by simp [seqTick, hq, hp])
  have hlow := runTicks_driveLatch (q := { atLatch q o with phase := .latchLow }) (ph := .holdLatchLow)
    (after := .respond) (v := false) (s := holdLine (driveLatch true s)) h1
    (fun u hp => by simp [seqTick, hp]) (fun q u hq hp => by simp [seqTick, hq, hp])
  rw [Nat.two_mul, runTicks_add, hhigh]
  exact hlow

/-- The ticks of a write up to its response (R205, R285). -/
theorem runTicks_write (q : Sequencer) {s : State} (h1 : 1 ≤ s.params.holdTicks) :
    runTicks (26 * (1 + s.params.holdTicks)) (running (atBit q s.params.shiftOrder 0) s) =
      running { atLatch q s.params.shiftOrder with phase := .respond } (writeSequence q.img s) := by
  have hpulse := runTicks_pulseLatch q s.params.shiftOrder
    (s := shiftBits q.img (shiftOrder s.params.shiftOrder) s) (by rw [shiftBits_params]; exact h1)
  rw [shiftBits_params] at hpulse
  rw [show 26 * (1 + s.params.holdTicks) = 24 * (1 + s.params.holdTicks) + 2 * (1 + s.params.holdTicks) by ring,
    runTicks_add, runTicks_eight_bits q h1, hpulse, writeSequence]

/-! Every command. -/

theorem wf_bounds {p : Params} (h : p.wf = true) : 1 ≤ p.holdTicks ∧ syncStages + 1 ≤ p.settleTicks := by
  simp only [Params.wf, Bool.and_eq_true, decide_eq_true_eq] at h
  obtain ⟨⟨⟨-, hhold⟩, hsettle⟩, -⟩ := h
  exact ⟨hhold, hsettle⟩

/-- The ticks of a command up to, and without, its response (R285). -/
def busyTicks (s : State) : Instr → Nat
  | .poll => ((lastRow s).val + 1) * (s.params.settleTicks + 2) + 1
  | .pollE => ((lastRow s).val + 1) * (s.params.settleTicks + 2) + 1
  | .edgeNone => 0
  | .edge _ => 0
  | .writeArray _ => 26 * (1 + s.params.holdTicks)

theorem rows_eq_lastRow_succ (s : State) :
    ((((found s).map Prod.fst).map fun r => r.val + 1).getD nRows) = (lastRow s).val + 1 := by
  cases h : found s with
  | none => rw [lastRow_of_found_none h]; rfl
  | some pos => rw [lastRow_of_found h]; rfl

theorem tickCount_eq (s : State) (i : Instr) :
    tickCount s.params ((found s).map Prod.fst) i = busyTicks s i + 1 := by
  cases i with
  | poll | pollE => simp only [tickCount, rows_eq_lastRow_succ, busyTicks]
  | edgeNone | edge | writeArray => rfl

/-- A command's ticks lead to its response, which completes what its meaning says. -/
theorem runTicks_to_response {s : State} (h : s.params.wf = true) (i : Instr) :
    ∃ q u, q.cmd = i ∧ q.phase = .respond ∧ runTicks (busyTicks s i) (accept i s) = running q u ∧
      exec i s = .next (complete i q.pending u) := by
  obtain ⟨hhold, hsettle⟩ := wf_bounds h
  rw [accept_eq_running]
  cases i with
  | poll =>
    exact ⟨_, _, rfl, rfl, runTicks_scan_clock (startOf s.params .poll) hsettle, exec_of_settled_poll (.inl rfl) hsettle⟩
  | pollE =>
    exact ⟨_, _, rfl, rfl, runTicks_scan_clock (startOf s.params .pollE) hsettle, exec_of_settled_poll (.inr rfl) hsettle⟩
  | edgeNone => exact ⟨startOf s.params .edgeNone, clock s, rfl, rfl, rfl, rfl⟩
  | edge k => exact ⟨startOf s.params (.edge k), clock s, rfl, rfl, rfl, rfl⟩
  | writeArray b =>
    have hticks := runTicks_write (startOf s.params (.writeArray b)) (s := clock s) hhold
    rw [clock_params, ← startOf_writeArray] at hticks
    exact ⟨_, _, rfl, rfl, hticks, rfl⟩

/-! Busy and silent up to the response. -/

theorem runTicks_succ (n : Nat) (s : State) : runTicks (n + 1) s = runTick (runTicks n s) := runTicks_add n 1 s

theorem runTicks_idle {s : State} (hs : s.seq = none) (n : Nat) : (runTicks n s).seq = none := by
  induction n with
  | zero => exact hs
  | succ n ih => rw [runTicks_succ, runTick_idle ih]; exact ih

/-- A block busy after some ticks has been busy all along: an idle one stays idle. -/
theorem runTicks_busy_of_le {s : State} {m n : Nat} (hmn : m ≤ n) (hn : (runTicks n s).seq ≠ none) :
    (runTicks m s).seq ≠ none := by
  obtain ⟨k, rfl⟩ := Nat.exists_eq_add_of_le hmn
  rw [runTicks_add] at hn
  exact fun hm => hn (runTicks_idle hm k)

/-- A tick that leaves the block busy goes on with its command. -/
theorem goesOn_of_busy {s : State} (h : (runTick s).seq ≠ none) :
    ∃ q, s.seq = some q ∧ q.phase ≠ .respond ∧ GoesOn q { s with rspValid := false } (runTick s) := by
  obtain ⟨hs, hrun⟩ | hgoes | ⟨q, -, -, hrun⟩ := runTick_cases s
  · rw [hrun] at h
    exact absurd hs h
  · exact hgoes
  · obtain ⟨-, -, hend⟩ := complete_responds q.cmd q.pending { s with rspValid := false }
    rw [hrun] at h
    exact absurd hend h

/-- While it is busy the block has not responded. -/
theorem runTicks_silent {s : State} {n : Nat} (hn : (runTicks n s).seq ≠ none) :
    (runTicks n s).responses = s.responses := by
  induction n with
  | zero => rfl
  | succ n ih =>
    have hbefore := ih (runTicks_busy_of_le (Nat.le_succ n) hn)
    rw [runTicks_succ] at hn ⊢
    obtain ⟨q, -, -, q', u, hrun, -, hline⟩ := goesOn_of_busy hn
    obtain ⟨-, hresponses, -⟩ := hline.keeps
    rw [hrun]
    exact hresponses.trans hbefore

theorem busy_before_response {s : State} (h : s.params.wf = true) (i : Instr) {n : Nat} (hn : n ≤ busyTicks s i) :
    (runTicks n (accept i s)).seq ≠ none := by
  obtain ⟨q, u, -, -, hticks, -⟩ := runTicks_to_response h i
  refine runTicks_busy_of_le hn ?_
  rw [hticks]
  exact Option.some_ne_none q

/-- Settles O48: the last tick is the response of the state the ticks before it have reached. -/
theorem ticksRefineTheTransaction : Obligations.TicksRefineTheTransaction := by
  intro s i _ h
  rw [tickCount_eq]
  refine ⟨?_, fun n hn => ?_⟩
  · obtain ⟨q, u, rfl, hphase, hticks, hexec⟩ := runTicks_to_response h i
    rw [runTicks_succ, hticks, runTick_running, seqTick, hphase, hexec, complete_running]
  · have hbusy := busy_before_response h i (Nat.le_of_lt_succ hn)
    exact ⟨hbusy, runTicks_silent hbusy⟩

/-! A reset in a poll (R271). -/

theorem sameInputs_runTicks (n : Nat) (s : State) : SameInputs s (runTicks n s) := by
  induction n with
  | zero => exact ⟨rfl, rfl⟩
  | succ n ih => rw [runTicks_succ]; exact ih.trans (sameInputs_runTick _)

theorem linesConsistent_runTicks {s : State} (h : linesConsistent s = true) (n : Nat) :
    linesConsistent (runTicks n s) = true := by
  induction n with
  | zero => exact h
  | succ n ih => rw [runTicks_succ]; exact linesConsistent_runTick ih

/-- A running poll is in a phase of the scan, or at its response. -/
theorem scanning_of_poll {q : Sequencer} (hcmd : q.cmd = .poll ∨ q.cmd = .pollE) (hfits : q.fitsCommand = true) :
    q.phase.scanning = true ∨ q.phase = .respond := by
  obtain hcmd | hcmd := hcmd <;> simpa [Sequencer.fitsCommand, hcmd] using hfits

/-- A running poll's state: its command, and an external register that is as it was in `s`. -/
structure PollRuns (i : Instr) (s u : State) : Prop where
  command : ∃ q, u.seq = some q ∧ q.cmd = i
  chain   : u.chain = s.chain
  latched : u.latched = s.latched
  written : u.written = s.written

theorem PollRuns.runTick {i : Instr} (hi : i = .poll ∨ i = .pollE) {s u : State} (h : PollRuns i s u)
    (hlines : linesConsistent u = true) (hbusy : (runTick u).seq ≠ none) : PollRuns i s (runTick u) := by
  obtain ⟨⟨q, hq, rfl⟩, hchain, hlatched, hwritten⟩ := h
  obtain ⟨q', hq', hphase, q'', v, hrun, hcmd, hline⟩ := goesOn_of_busy hbusy
  cases hq.symm.trans hq'
  have hscan := (scanning_of_poll hi ((linesConsistent_busy_iff hq).mp hlines).fits).resolve_right hphase
  obtain ⟨hvchain, hvlatched⟩ := hline.keeps_register hscan
  obtain ⟨-, -, -, hvwritten, -⟩ := hline.keeps
  rw [hrun]
  exact ⟨⟨q'', rfl, hcmd⟩, hvchain.trans hchain, hvlatched.trans hlatched, hvwritten.trans hwritten⟩

/-- Between commands the lines are low. -/
theorem linesLow_of_idle {s : State} (h : Idle s) : LinesLow s := by
  obtain ⟨-, hrow, hclk, hlatch⟩ := h
  exact ⟨hrow, hclk, hlatch⟩

theorem pollRuns_runTicks {i : Instr} (hi : i = .poll ∨ i = .pollE) {s : State} (hidle : Idle s)
    (h : s.params.wf = true) {n : Nat} (hn : n ≤ busyTicks s i) : PollRuns i s (runTicks n (accept i s)) := by
  induction n with
  | zero => exact ⟨⟨_, rfl, rfl⟩, rfl, rfl, rfl⟩
  | succ n ih =>
    have hlines := linesConsistent_runTicks (linesConsistent_accept i (linesLow_of_idle hidle)) n
    have hbusy := busy_before_response h i hn
    rw [runTicks_succ] at hbusy ⊢
    exact (ih (Nat.le_of_succ_le hn)).runTick hi hlines hbusy

/-- No scan drives the latch line, and its reset cuts no write. -/
theorem latch_low_of_scanning {q : Sequencer} (hcmd : q.cmd = .poll ∨ q.cmd = .pollE) (hfits : q.fitsCommand = true)
    {u : State} (hq : u.seq = some q) : q.phase.latchExpected = false ∧ latchDriven u = false := by
  obtain hscan | hresp := scanning_of_poll hcmd hfits
  · cases hphase : q.phase with simp_all [Phase.scanning, Phase.latchExpected, latchDriven]
  · obtain hcmd | hcmd := hcmd <;> simp [hresp, Phase.latchExpected, latchDriven, hq, hcmd]

/-- Settles O53: at any tick of a poll the external register is as at its start, the latch line is low, and reset leaves
it. -/
theorem resetDuringPoll : Obligations.ResetDuringPoll := by
  intro s i n hi hidle h hfollows hn pins hrst
  rw [tickCount_eq] at hn
  have hn := Nat.le_of_lt_succ hn
  have hlines := linesConsistent_runTicks (linesConsistent_accept i (linesLow_of_idle hidle)) n
  have hsilent := runTicks_silent (busy_before_response h i hn)
  have hparams := (sameInputs_runTicks n (accept i s)).params
  obtain ⟨⟨q, hq, rfl⟩, hchain, hlatched, hwritten⟩ := pollRuns_runTicks hi hidle h hn
  generalize runTicks n (accept q.cmd s) = u at *
  have hstand := (linesConsistent_busy_iff hq).mp hlines
  obtain ⟨hlow, hdriven⟩ := latch_low_of_scanning hi hstand.fits hq
  have hlatch : u.latch = false := hstand.latch.trans hlow
  have hf : u.params.registerFollows = true := by rw [hparams]; exact hfollows
  refine ⟨applyReset u, tick_of_rst hrst u, hsilent, rfl, rfl, rfl, rfl, (applyReset_chain hf).trans hchain, ?_⟩
  rw [State.q, State.q, applyReset_written, hdriven, Bool.or_false, hwritten, applyReset_latched hf, hlatch, hlatched]
  simp

end Sys2Proof.Proofs
end

section
/-! A write tick by tick (R205, R209, R271): its 26 drives come one every `1 + HOLD_TICKS` ticks, and how many of them have
happened says which phase the sequencer is in and what the external register holds. -/

namespace Sys2Proof.Proofs

open Sys2Proof.Machine Sys2Proof.Laws Sys2Proof.Expect

/-! The external register after `d` drives. -/

/-- How many of the 26 drives have happened in a phase of the `k`-th bit or of the latch pulse (R205). -/
def drivesDone (k : Nat) : Phase → Nat
  | .setData => 3 * k
  | .holdData | .clkHigh => 3 * k + 1
  | .holdClkHigh | .clkLow => 3 * k + 2
  | .holdClkLow => 3 * k + 3
  | .latchHigh => 24
  | .holdLatchHigh | .latchLow => 25
  | .holdLatchLow | .respond => 26
  | .driveRow | .settle | .sample | .park => 0

/-- The drive that makes the latch line's active edge: the 25th or the 26th (R205, R213). -/
def activeDrive (p : Params) : Nat :=
  match p.latchEdge with
  | .rising => 25
  | .falling => 26

/-- `CHAIN` after `d` drives of a write of `b` from `s`: every third drive, from the second on, raises the clock. -/
def chainAfter (s : State) (b : Image) (d : Nat) : Stages := shifted s.params b (min 8 ((d + 1) / 3)) s.chain

/-- The output latches after `d` drives of a write of `b` from `s`. -/
def latchedAfter (s : State) (b : Image) (d : Nat) : Stages :=
  if d < activeDrive s.params then s.latched else Stages.ofByte (outmap s.params.shiftOrder b)

/-- The external register after `d` drives of a write of `b` from `s`, under the same parameters. -/
structure RegisterAfter (s : State) (b : Image) (d : Nat) (v : State) : Prop where
  chain   : v.chain = chainAfter s b d
  latched : v.latched = latchedAfter s b d
  written : v.written = s.written
  params  : v.params = s.params

theorem shifted_succ (p : Params) (b : Image) {k : Nat} (hk : k < 8) (old : Stages) :
    shifted p b (k + 1) old = shiftIn (shifted p b k old) (imageElement b (elementAt p.shiftOrder k)) := by
  rw [shifted, take_succ_shiftOrder _ hk, List.foldl_append]
  rfl

theorem shifted_eight (p : Params) (b : Image) (old : Stages) :
    shifted p b 8 old = Stages.ofByte (outmap p.shiftOrder b) := by
  have horder : (shiftOrder p.shiftOrder).take 8 = shiftOrder p.shiftOrder := by cases p.shiftOrder <;> rfl
  rw [shifted, horder, shifts_eq_outmap]

/-- The chain is the whole image once the eighth rise has come. -/
theorem chainAfter_of_le {s : State} {b : Image} {d : Nat} (hd : 23 ≤ d) :
    chainAfter s b d = Stages.ofByte (outmap s.params.shiftOrder b) := by
  rw [chainAfter, show min 8 ((d + 1) / 3) = 8 by omega, shifted_eight]

theorem activeDrive_bounds (p : Params) : 25 ≤ activeDrive p ∧ activeDrive p ≤ 26 := by
  unfold activeDrive
  split <;> decide

theorem latchedAfter_of_lt {s : State} (b : Image) {d : Nat} (hd : d < 25) : latchedAfter s b d = s.latched :=
  if_pos (Nat.lt_of_lt_of_le hd (activeDrive_bounds s.params).1)

section

variable {s v : State} {b : Image} {d : Nat} (hf : s.params.registerFollows = true)

include hf

/-- A drive of the data line is the first of its bit: nothing shifts. -/
theorem RegisterAfter.driveData (h : RegisterAfter s b d v) {k : Nat} (hk : k ≤ 7) (hd : d = 3 * k) (x : Bool) :
    RegisterAfter s b (d + 1) (driveData x v) := by
  obtain ⟨hchain, hlatched, hwritten, hparams⟩ := h
  have hv : v.params.registerFollows = true := hparams ▸ hf
  refine ⟨(keptContents_follows hv _).trans (hchain.trans ?_), (keptContents_follows hv _).trans (hlatched.trans ?_),
    hwritten, hparams⟩
  · rw [chainAfter, chainAfter, show (d + 1) / 3 = (d + 1 + 1) / 3 by omega]
  · rw [latchedAfter_of_lt b (by omega), latchedAfter_of_lt b (by omega)]

/-- A rise of the clock is the second drive of its bit: the bit's element is shifted in (R212). -/
theorem RegisterAfter.clkHigh (h : RegisterAfter s b d v) {k : Nat} (hk : k ≤ 7) (hd : d = 3 * k + 1)
    (hclk : v.clk = false) (hdata : v.data = imageElement b (elementAt s.params.shiftOrder k)) :
    RegisterAfter s b (d + 1) (driveClk true v) := by
  obtain ⟨hchain, hlatched, hwritten, hparams⟩ := h
  have hv : v.params.registerFollows = true := hparams ▸ hf
  refine ⟨?_, (keptContents_follows hv _).trans (hlatched.trans ?_), hwritten, hparams⟩
  · rw [driveClk_chain, hclk, chainAfterClk_rise hv, hchain, hdata, chainAfter, chainAfter,
      show min 8 ((d + 1) / 3) = k by omega, show min 8 ((d + 1 + 1) / 3) = k + 1 by omega, shifted_succ _ _ (by omega)]
  · rw [latchedAfter_of_lt b (by omega), latchedAfter_of_lt b (by omega)]

/-- A fall of the clock is the third drive of its bit: nothing shifts. -/
theorem RegisterAfter.clkLow (h : RegisterAfter s b d v) {k : Nat} (hk : k ≤ 7) (hd : d = 3 * k + 2) :
    RegisterAfter s b (d + 1) (driveClk false v) := by
  obtain ⟨hchain, hlatched, hwritten, hparams⟩ := h
  have hv : v.params.registerFollows = true := hparams ▸ hf
  refine ⟨(chainAfterClk_low hv _ _ _).trans (hchain.trans ?_), (keptContents_follows hv _).trans (hlatched.trans ?_),
    hwritten, hparams⟩
  · rw [chainAfter, chainAfter, show (d + 1) / 3 = (d + 1 + 1) / 3 by omega]
  · rw [latchedAfter_of_lt b (by omega), latchedAfter_of_lt b (by omega)]

/-- The latch line rises with the 25th drive (R213). -/
theorem RegisterAfter.latchHigh (h : RegisterAfter s b 24 v) (hlatch : v.latch = false) :
    RegisterAfter s b 25 (driveLatch true v) := by
  obtain ⟨hchain, hlatched, hwritten, hparams⟩ := h
  have hv : v.params.registerFollows = true := hparams ▸ hf
  refine ⟨(keptContents_follows hv _).trans ?_, ?_, hwritten, hparams⟩
  · refine hchain.trans ?_
    rw [chainAfter_of_le (by decide), chainAfter_of_le (by decide)]
  · rw [chainAfter_of_le (by decide)] at hchain
    rw [latchedAfter_of_lt b (by decide)] at hlatched
    rw [driveLatch_latched, hlatch, qAfterLatch, if_pos hv, hparams, hchain, hlatched]
    cases he : s.params.latchEdge <;> simp [latchedAfter, activeDrive, latchActive, rises, falls, he]

/-- The latch line falls with the 26th drive (R213). -/
theorem RegisterAfter.latchLow (h : RegisterAfter s b 25 v) (hlatch : v.latch = true) :
    RegisterAfter s b 26 (driveLatch false v) := by
  obtain ⟨hchain, hlatched, hwritten, hparams⟩ := h
  have hv : v.params.registerFollows = true := hparams ▸ hf
  refine ⟨(keptContents_follows hv _).trans ?_, ?_, hwritten, hparams⟩
  · refine hchain.trans ?_
    rw [chainAfter_of_le (by decide), chainAfter_of_le (by decide)]
  · rw [chainAfter_of_le (by decide)] at hchain
    rw [driveLatch_latched, hlatch, qAfterLatch, if_pos hv, hparams, hchain, hlatched]
    cases he : s.params.latchEdge <;> simp [latchedAfter, activeDrive, latchActive, rises, falls, he]

end

/-! The sequencer after `n` ticks. -/

/-- A phase in which the line just driven is held. -/
def Phase.holds : Phase → Bool
  | .holdData | .holdClkHigh | .holdClkLow | .holdLatchHigh | .holdLatchLow => true
  | .setData | .clkHigh | .clkLow | .latchHigh | .latchLow | .respond => false
  | .driveRow | .settle | .sample | .park => false

/-- A write of `b` from `s`, `n` ticks after its acceptance and before its response: `k` is the bit it is at, `d` the drives
that have happened, `q` the sequencer's fields, and `v` the rest of the state. -/
structure WritePoint (s : State) (b : Image) (k d n : Nat) (q : Sequencer) (v : State) : Prop where
  bit      : k ≤ 7 ∧ q.bit = elementAt s.params.shiftOrder k
  image    : q.img = b ∧ q.cmd = .writeArray b
  writing  : q.phase.scanning = false
  drives   : d = drivesDone k q.phase
  ticks    : n + q.hold = d * (1 + s.params.holdTicks)
  hold     : if Phase.holds q.phase then 1 ≤ q.hold ∧ q.hold ≤ s.params.holdTicks else q.hold = 0
  lines    : v.clk = q.phase.clkExpected ∧ v.latch = q.phase.latchExpected
  data     : q.phase = .holdData ∨ q.phase = .clkHigh → v.data = imageElement b q.bit
  register : RegisterAfter s b d v

/-- The write is at some point `n` ticks after its acceptance. -/
def WriteReaches (s : State) (b : Image) (n : Nat) (u : State) : Prop :=
  ∃ k d q v, u = running q v ∧ WritePoint s b k d n q v

section

variable {s : State} {b : Image} {k d n : Nat} {q : Sequencer} {v : State} (h : WritePoint s b k d n q v)

include h

theorem WritePoint.params : v.params = s.params := h.register.params

/-- A drive: the line changes, and its hold begins. -/
theorem WritePoint.drive {after : Phase} {v' : State} (h1 : 1 ≤ s.params.holdTicks)
    (hphase : Phase.holds q.phase = false) (hafter : Phase.holds after = true) (hwrite : after.scanning = false)
    (hdrives : drivesDone k after = d + 1) (hlines : v'.clk = after.clkExpected ∧ v'.latch = after.latchExpected)
    (hdata : after = .holdData → v'.data = imageElement b q.bit) (hregister : RegisterAfter s b (d + 1) v') :
    WriteReaches s b (n + 1)
      (State.setSeq { q with phase := after, hold := s.params.holdTicks } (running q v')) := by
  have hhold : q.hold = 0 := by simpa [hphase] using h.hold
  refine ⟨k, d + 1, { q with phase := after, hold := s.params.holdTicks }, v', rfl, h.bit, h.image, hwrite, hdrives.symm,
    ?_, ?_, hlines, ?_, hregister⟩
  · have hticks := h.ticks
    dsimp only
    rw [Nat.succ_mul]
    omega
  · simp [hafter, h1]
  · rintro (rfl | rfl)
    · exact hdata rfl
    · cases hafter

/-- A tick of a hold that is not its last. -/
theorem WritePoint.wait (hphase : Phase.holds q.phase = true) (hleft : 1 < q.hold) :
    WriteReaches s b (n + 1) (State.setSeq { q with hold := q.hold - 1 } (running q (clock v))) := by
  have hhold : 1 ≤ q.hold ∧ q.hold ≤ s.params.holdTicks := by simpa [hphase] using h.hold
  refine ⟨k, d, { q with hold := q.hold - 1 }, clock v, rfl, h.bit, h.image, h.writing, h.drives, ?_, ?_, h.lines, h.data,
    h.register.chain, h.register.latched, h.register.written, h.register.params⟩
  · have hticks := h.ticks
    dsimp only
    omega
  · simp only [hphase, if_true]
    omega

/-- The last tick of a hold leads to the next drive, or to the response. -/
theorem WritePoint.waitEnd {k' : Nat} {after : Phase} {i : Fin imgWidth} {e : LineEvent}
    (hphase : Phase.holds q.phase = true) (hleft : q.hold ≤ 1) (hafter : Phase.holds after = false)
    (hwrite : after.scanning = false) (hbit : k' ≤ 7 ∧ i = elementAt s.params.shiftOrder k')
    (hdrives : drivesDone k' after = drivesDone k q.phase)
    (hlines : after.clkExpected = q.phase.clkExpected ∧ after.latchExpected = q.phase.latchExpected)
    (hdata : after = .clkHigh → q.phase = .holdData ∧ i = q.bit) :
    WriteReaches s b (n + 1)
      (State.setSeq { q with phase := after, bit := i, hold := 0 } (State.logEvent e (running q (clock v)))) := by
  have hhold : 1 ≤ q.hold ∧ q.hold ≤ s.params.holdTicks := by simpa [hphase] using h.hold
  refine ⟨k', d, { q with phase := after, bit := i, hold := 0 }, State.logEvent e (clock v), rfl, hbit, h.image, hwrite,
    h.drives.trans hdrives.symm, ?_, by simp [hafter], ?_, ?_,
    h.register.chain, h.register.latched, h.register.written, h.register.params⟩
  · have hticks := h.ticks
    dsimp only
    omega
  · obtain ⟨hclk, hlatch⟩ := hlines
    rw [hclk, hlatch]
    exact h.lines
  · rintro (rfl | rfl)
    · cases hafter
    · obtain ⟨hp, rfl⟩ := hdata rfl
      exact h.data (.inl hp)

/-- A tick of the hold of a line of the driver. -/
theorem WritePoint.holdTick {after : Phase} (hphase : Phase.holds q.phase = true) (hafter : Phase.holds after = false)
    (hwrite : after.scanning = false) (hdrives : drivesDone k after = drivesDone k q.phase)
    (hlines : after.clkExpected = q.phase.clkExpected ∧ after.latchExpected = q.phase.latchExpected)
    (hdata : after = .clkHigh → q.phase = .holdData) (m : Nat) :
    WriteReaches s b (n + 1) (holdTick (fun _ => clock) m after q (running q v)) := by
  by_cases hleft : q.hold ≤ 1
  · rw [holdTick_last _ hleft]
    exact h.waitEnd hphase hleft hafter hwrite h.bit hdrives hlines fun ha => ⟨hdata ha, rfl⟩
  · rw [holdTick_counts _ (Nat.lt_of_not_le hleft)]
    exact h.wait hphase (Nat.lt_of_not_le hleft)

/-- A tick of the hold that ends a bit: the next bit follows, or the latch pulse after the eighth. -/
theorem WritePoint.bitEndTick (hphase : q.phase = .holdClkLow) :
    WriteReaches s b (n + 1) (bitEndTick q (running q v)) := by
  obtain ⟨hk, hbit⟩ := h.bit
  have hholds : Phase.holds q.phase = true := by rw [hphase]; rfl
  have hparams : (running q v).params = s.params := h.params
  unfold Machine.bitEndTick
  split_ifs with hleft
  · rw [hparams, afterBit, hbit]
    obtain rfl | hlt := Nat.eq_or_lt_of_le hk
    · rw [elementAt_seven, nextElement_last, ← elementAt_seven, ← hbit]
      exact h.waitEnd hholds hleft rfl rfl ⟨hk, hbit⟩ (by rw [hphase]; rfl) (by rw [hphase]; exact ⟨rfl, rfl⟩) nofun
    · rw [nextElement_elementAt _ hlt]
      exact h.waitEnd (k' := k + 1) hholds hleft rfl rfl ⟨hlt, rfl⟩ (by rw [hphase]; rfl)
        (by rw [hphase]; exact ⟨rfl, rfl⟩) nofun
  · exact h.wait hholds (Nat.lt_of_not_le hleft)

/-- A write before its response goes on to its next point. -/
theorem WritePoint.seqTick (hf : s.params.registerFollows = true) (h1 : 1 ≤ s.params.holdTicks)
    (hresp : q.phase ≠ .respond) : WriteReaches s b (n + 1) (seqTick q (running q v)) := by
  obtain ⟨hk, hbit⟩ := h.bit
  obtain ⟨himage, -⟩ := h.image
  obtain ⟨hclk, hlatch⟩ := h.lines
  have hdrives := h.drives
  have hwriting := h.writing
  have hregister := h.register
  have hparams : (running q v).params = s.params := h.params
  unfold Machine.seqTick
  rw [hparams]
  cases hphase : q.phase with (rw [hphase] at hclk hlatch hdrives hwriting)
  | driveRow | settle | sample | park => cases hwriting
  | setData =>
    refine h.drive (after := .holdData) (v' := driveData (imageElement q.img q.bit) v) h1 (by rw [hphase]; rfl) rfl rfl
      (by rw [hdrives]; rfl) ⟨hclk, hlatch⟩ (fun _ => ?_) (hregister.driveData hf hk hdrives _)
    rw [himage]
    rfl
  | clkHigh =>
    have hdata := (h.data (.inr hphase)).trans (by rw [hbit])
    exact h.drive (after := .holdClkHigh) (v' := driveClk true v) h1 (by rw [hphase]; rfl) rfl rfl
      (by rw [hdrives]; rfl) ⟨rfl, hlatch⟩ nofun (hregister.clkHigh hf hk hdrives hclk hdata)
  | clkLow =>
    exact h.drive (after := .holdClkLow) (v' := driveClk false v) h1 (by rw [hphase]; rfl) rfl rfl
      (by rw [hdrives]; rfl) ⟨rfl, hlatch⟩ nofun (hregister.clkLow hf hk hdrives)
  | latchHigh =>
    subst hdrives
    exact h.drive (after := .holdLatchHigh) (v' := driveLatch true v) h1 (by rw [hphase]; rfl) rfl rfl rfl
      ⟨hclk, rfl⟩ nofun (hregister.latchHigh hf hlatch)
  | latchLow =>
    subst hdrives
    exact h.drive (after := .holdLatchLow) (v' := driveLatch false v) h1 (by rw [hphase]; rfl) rfl rfl rfl
      ⟨hclk, rfl⟩ nofun (hregister.latchLow hf hlatch)
  | holdData =>
    exact h.holdTick (after := .clkHigh) (by rw [hphase]; rfl) rfl rfl (by rw [hphase]; rfl)
      (by rw [hphase]; exact ⟨rfl, rfl⟩) (fun _ => hphase) _
  | holdClkHigh =>
    exact h.holdTick (after := .clkLow) (by rw [hphase]; rfl) rfl rfl (by rw [hphase]; rfl)
      (by rw [hphase]; exact ⟨rfl, rfl⟩) nofun _
  | holdLatchHigh =>
    exact h.holdTick (after := .latchLow) (by rw [hphase]; rfl) rfl rfl (by rw [hphase]; rfl)
      (by rw [hphase]; exact ⟨rfl, rfl⟩) nofun _
  | holdLatchLow =>
    exact h.holdTick (after := .respond) (by rw [hphase]; rfl) rfl rfl (by rw [hphase]; rfl)
      (by rw [hphase]; exact ⟨rfl, rfl⟩) nofun _
  | holdClkLow => exact h.bitEndTick hphase
  | respond => exact absurd hphase hresp

end

/-! Where `n` ticks lead. -/

/-- The drives that have happened tell the tick: a hold in progress lasts less than a drive and its hold together. -/
theorem WritePoint.hold_lt {s : State} {b : Image} {k d n : Nat} {q : Sequencer} {v : State}
    (h : WritePoint s b k d n q v) : q.hold < 1 + s.params.holdTicks := by
  have hhold := h.hold
  split at hhold
  · omega
  · omega

theorem drivesDone_le {k : Nat} (hk : k ≤ 7) (ph : Phase) : drivesDone k ph ≤ 26 := by
  cases ph <;> simp only [drivesDone] <;> omega

/-- From an idle block every tick up to the response leads to a point of the write. -/
theorem writeReaches_writing {s : State} (b : Image) (hidle : Idle s) (hf : s.params.registerFollows = true)
    (h1 : 1 ≤ s.params.holdTicks) {n : Nat} (hn : n ≤ 26 * (1 + s.params.holdTicks)) :
    WriteReaches s b n (writing b n s) := by
  induction n with
  | zero =>
    obtain ⟨-, -, hclk, hlatch⟩ := hidle
    have hbit : (startOf s.params (.writeArray b)).bit = elementAt s.params.shiftOrder 0 := by
      rw [startOf_writeArray]
      rfl
    have hregister : RegisterAfter s b 0 (clock s) := ⟨rfl, (latchedAfter_of_lt b (by decide)).symm, rfl, rfl⟩
    exact ⟨0, 0, startOf s.params (.writeArray b), clock s, rfl, ⟨by decide, hbit⟩, ⟨rfl, rfl⟩, rfl, rfl,
      (Nat.zero_mul _).symm, rfl, ⟨hclk, hlatch⟩, nofun, hregister⟩
  | succ n ih =>
    obtain ⟨k, d, q, v, hu, hpoint⟩ := ih (Nat.le_of_succ_le hn)
    have hresp : q.phase ≠ .respond := by
      intro hresp
      have hticks := hpoint.ticks
      have hhold := hpoint.hold
      rw [hpoint.drives, hresp] at hticks
      simp [hresp, Phase.holds, drivesDone] at hticks hhold
      omega
    have hstep := hpoint.seqTick hf h1 hresp
    rw [writing, runTicks_succ, ← writing, hu, runTick_running]
    exact hstep

/-- Up to the `(c + 1)`-th drive, and in its tick and after it. -/
theorem WritePoint.lt_tick_iff {s : State} {b : Image} {k d n : Nat} {q : Sequencer} {v : State}
    (h : WritePoint s b k d n q v) (c : Nat) : n < c * (1 + s.params.holdTicks) + 1 ↔ d < c + 1 := by
  have hticks := h.ticks
  have hhold := h.hold_lt
  constructor
  · intro hlt
    by_contra hd
    have hmul := Nat.mul_le_mul_right (1 + s.params.holdTicks) (Nat.le_of_not_lt hd)
    rw [Nat.succ_mul] at hmul
    omega
  · intro hd
    have hmul := Nat.mul_le_mul_right (1 + s.params.holdTicks) (Nat.le_of_lt_succ hd)
    omega

theorem WritePoint.lt_activeTick_iff {s : State} {b : Image} {k d n : Nat} {q : Sequencer} {v : State}
    (h : WritePoint s b k d n q v) : n < activeTick s.params ↔ d < activeDrive s.params := by
  unfold activeTick activeDrive
  cases s.params.latchEdge with
  | rising => exact h.lt_tick_iff 24
  | falling => exact h.lt_tick_iff 25

/-- The rising edges that R285's ticks count are those of the drives (R205). -/
theorem WritePoint.risingEdges {s : State} {b : Image} {k d n : Nat} {q : Sequencer} {v : State}
    (h : WritePoint s b k d n q v) : risingEdges s.params n = min 8 ((d + 1) / 3) := by
  have hticks := h.ticks
  have hhold := h.hold_lt
  unfold Expect.risingEdges
  generalize 1 + s.params.holdTicks = L at *
  have hdiv : (n - 1 + 2 * L) / L / 3 = (d + 1) / 3 := by
    obtain rfl | hd := Nat.eq_zero_or_pos d
    · have hn : n = 0 := by omega
      rw [hn, Nat.zero_sub, Nat.zero_add, Nat.mul_div_cancel _ (by omega)]
    · obtain ⟨e, rfl⟩ : ∃ e, d = e + 1 := ⟨d - 1, by omega⟩
      rw [Nat.succ_mul] at hticks
      have hn : n - 1 + 2 * L = (L - 1 - q.hold) + (e + 2) * L := by
        rw [Nat.add_mul]
        omega
      rw [hn, Nat.add_mul_div_right _ _ (by omega), Nat.div_eq_of_lt (a := L - 1 - q.hold) (by omega), Nat.zero_add]
  rw [Nat.mul_comm 3, ← Nat.div_div_eq_div_mul, hdiv]

/-! `Q` tick by tick (R209). -/

/-- Before its response a write shows the old outputs up to the latch's active edge, and the image from then on. -/
theorem q_of_writePoint {s : State} {b : Image} {k d n : Nat} {q : Sequencer} {v : State}
    (h : WritePoint s b k d n q v) (hn : n ≤ 26 * (1 + s.params.holdTicks)) :
    (running q v).q = if n < shownTick s then s.q else Stages.ofByte (outmap s.params.shiftOrder b) := by
  have hwritten : (running q v).written = s.written := h.register.written
  have hlatched : (running q v).latched = latchedAfter s b d := h.register.latched
  cases hs : s.written with
  | false =>
    have hshown : n < shownTick s := by rw [shownTick, hs, if_neg Bool.false_ne_true]; omega
    rw [if_pos hshown, q_of_not_written hs, q_of_not_written (hwritten.trans hs)]
  | true =>
    have hshown : shownTick s = activeTick s.params := by simp [shownTick, hs]
    rw [q_of_written hs, q_of_written (hwritten.trans hs), hlatched, latchedAfter, hshown]
    simp only [h.lt_activeTick_iff]

theorem runTicks_idle_q {s : State} (hs : s.seq = none) (n : Nat) : (runTicks n s).q = s.q := by
  induction n with
  | zero => rfl
  | succ n ih => rw [runTicks_succ, runTick_idle (runTicks_idle hs n)]; exact ih

/-- From its response on a write shows the image. -/
theorem q_of_writing_done {s : State} (b : Image) (hidle : Idle s) (hwf : s.params.wf = true)
    (hf : s.params.registerFollows = true) {n : Nat} (hn : 26 * (1 + s.params.holdTicks) < n) :
    (writing b n s).q = Stages.ofByte (outmap s.params.shiftOrder b) := by
  obtain ⟨m, rfl⟩ := Nat.exists_eq_add_of_lt hn
  obtain ⟨hseq, -, hclk, hlatch⟩ := hidle
  obtain ⟨t, hexec, hq, -⟩ := exec_write_q hclk hlatch hf b
  obtain ⟨u, hu, -, -, hend⟩ := exec_responds (.writeArray b) s
  cases hu.symm.trans hexec
  obtain ⟨hticks, -⟩ := ticksRefineTheTransaction s (.writeArray b) hseq hwf
  rw [tickCount_eq, hexec, busyTicks] at hticks
  cases hticks
  rw [writing, show 26 * (1 + s.params.holdTicks) + m + 1 = 26 * (1 + s.params.holdTicks) + 1 + m by omega, runTicks_add,
    runTicks_idle_q hend, hq]

theorem shownTick_le (s : State) : shownTick s ≤ 26 * (1 + s.params.holdTicks) + 1 := by
  unfold shownTick activeTick
  split
  · split <;> omega
  · omega

/-- Settles O35: up to the response by the point the write has reached, and from it on by what the command leaves. -/
theorem outputsChangeOnceAtTheLatch : Obligations.OutputsChangeOnceAtTheLatch := by
  intro s b n hidle hwf hf
  obtain ⟨hhold, -⟩ := wf_bounds hwf
  obtain hn | hn := le_or_gt n (26 * (1 + s.params.holdTicks))
  · obtain ⟨k, d, q, v, hu, hpoint⟩ := writeReaches_writing b hidle hf hhold hn
    rw [hu]
    exact q_of_writePoint hpoint hn
  · have hshown := shownTick_le s
    rw [if_neg (by omega)]
    exact q_of_writing_done b hidle hwf hf hn

/-! A reset in a write (R271). -/

/-- The latch has been driven high from the 25th drive on. -/
theorem WritePoint.latchDriven_iff {s : State} {b : Image} {k d n : Nat} {q : Sequencer} {v : State}
    (h : WritePoint s b k d n q v) : latchDriven (running q v) = true ↔ ¬ d < 25 := by
  obtain ⟨hk, -⟩ := h.bit
  obtain ⟨-, hcmd⟩ := h.image
  have hwriting := h.writing
  rw [h.drives]
  cases hphase : q.phase with
  | driveRow | settle | sample | park => rw [hphase] at hwriting; cases hwriting
  | setData | holdData | clkHigh | holdClkHigh | clkLow | holdClkLow | latchHigh =>
    simp only [latchDriven, running, hphase, drivesDone, Bool.false_eq_true, false_iff, not_not]
    omega
  | holdLatchHigh | latchLow | holdLatchLow => simp [latchDriven, running, hphase, drivesDone]
  | respond => simp [latchDriven, running, hphase, drivesDone, hcmd]

/-- The latch line is high between the 25th and the 26th drive. -/
theorem WritePoint.latch_iff {s : State} {b : Image} {k d n : Nat} {q : Sequencer} {v : State}
    (h : WritePoint s b k d n q v) : v.latch = true ↔ d = 25 := by
  obtain ⟨hk, -⟩ := h.bit
  obtain ⟨-, hlatch⟩ := h.lines
  have hwriting := h.writing
  rw [h.drives, hlatch]
  cases hphase : q.phase with
  | driveRow | settle | sample | park => rw [hphase] at hwriting; cases hwriting
  | setData | holdData | clkHigh | holdClkHigh | clkLow | holdClkLow | latchHigh =>
    simp only [Phase.latchExpected, drivesDone, Bool.false_eq_true, false_iff]
    omega
  | holdLatchHigh | latchLow | holdLatchLow | respond => simp [Phase.latchExpected, drivesDone]

/-- What a reset leaves in the output latches: the old contents before `Drive(LATCH, 1)`, and the image from then on, since
forcing a high latch low makes the edge that has not come (C11). -/
theorem WritePoint.applyReset_latched {s : State} {b : Image} {k d n : Nat} {q : Sequencer} {v : State}
    (h : WritePoint s b k d n q v) (hf : s.params.registerFollows = true) :
    (applyReset (running q v)).latched =
      if d < 25 then s.latched else Stages.ofByte (outmap s.params.shiftOrder b) := by
  have hparams : (running q v).params = s.params := h.params
  have hchain : (running q v).chain = chainAfter s b d := h.register.chain
  have hlatched : (running q v).latched = latchedAfter s b d := h.register.latched
  have hlatch : (running q v).latch = true ↔ d = 25 := h.latch_iff
  have hle : d ≤ 26 := h.drives ▸ drivesDone_le h.bit.1 q.phase
  rw [Laws.applyReset_latched (hparams ▸ hf), hparams, hchain, hlatched, latchedAfter]
  simp only [hlatch]
  by_cases hd : d < 25
  · have hactive : d < activeDrive s.params := Nat.lt_of_lt_of_le hd (activeDrive_bounds s.params).1
    rw [if_pos hd, if_pos hactive, if_neg (by omega)]
  · rw [if_neg hd, chainAfter_of_le (by omega), activeDrive]
    cases s.params.latchEdge with
    | rising => simp [hd]
    | falling =>
      obtain rfl | rfl : d = 25 ∨ d = 26 := by omega
      · simp
      · simp

/-- Settles O52: the reset's registers by the point at which it comes, from the drives that have happened. -/
theorem resetDuringWrite : Obligations.ResetDuringWrite := by
  intro s b n hidle hwf hf hn pins hrst
  obtain ⟨hhold, -⟩ := wf_bounds hwf
  have hn : n ≤ 26 * (1 + s.params.holdTicks) := Nat.le_of_lt_succ hn
  have hsilent : (writing b n s).responses = s.responses := runTicks_silent (busy_before_response hwf (.writeArray b) hn)
  obtain ⟨k, d, q, v, hu, hpoint⟩ := writeReaches_writing b hidle hf hhold hn
  rw [hu] at hsilent ⊢
  have hfollows : (running q v).params.registerFollows = true := by rw [show (running q v).params = _ from hpoint.params, hf]
  have hwritten : (running q v).written = s.written := hpoint.register.written
  refine ⟨_, tick_of_rst hrst _, hsilent, rfl, rfl, rfl, rfl, ?_, ?_⟩
  · rw [applyReset_chain hfollows, hpoint.risingEdges]
    exact hpoint.register.chain
  · have htick : n < latchTick s.params ↔ d < 25 := hpoint.lt_tick_iff 24
    have hdriven := hpoint.latchDriven_iff
    rw [State.q, applyReset_written, hwritten, hpoint.applyReset_latched hf]
    simp only [htick]
    by_cases hd : d < 25
    · have hnot : latchDriven (running q v) = false := by simpa [hd] using hdriven
      simp [hd, hnot, State.q]
    · simp [hd, hdriven.mpr hd]

end Sys2Proof.Proofs
end
